-- ==== Sys2Proof/Word.lean ====
section
/-! DEFINITION. The word types of OTPCORE (00_scope.md R7, R10): bytes, the 32-bit register word and the 64-bit
quantity held in a pair of registers. -/

namespace Sys2Proof

/-- A byte is 8 bits (R10). -/
abbrev Byte := BitVec 8

/-- A register word is 32 bits (R7). -/
abbrev Word := BitVec 32

/-- A 64-bit unsigned quantity: CTR, NOW, T0, STEP, MF (R6, R7). -/
abbrev DWord := BitVec 64

end Sys2Proof
end

