-- ==== Sys2Proof/Syntax.lean ====
section
/-! DEFINITION. The instructions of OTPCORE: the seven commands written to register CMD (30_encoding.md R103). -/

namespace Sys2Proof

/-- One constructor per row of the opcode table (R103). KEYB's byte is the only operand; all others are implicit
registers (R102, R104). -/
inductive Instr where
  /-- NOP, opcode 0x00 (R120). -/
  | nop
  /-- KEYCLR, opcode 0x01 (R121). -/
  | keyclr
  /-- KEYB imm8, opcode 0x02 (R122). -/
  | keyb (imm8 : Byte)
  /-- GENH, opcode 0x03 (R130). -/
  | genh
  /-- GENT, opcode 0x04 (R131). -/
  | gent
  /-- ACK, opcode 0x05 (R231). -/
  | ack
  /-- SRST, opcode 0x06 (R232). -/
  | srst
  deriving DecidableEq, Repr

end Sys2Proof
end

