-- ==== Sys2Proof/WellFormed.lean ====
section
/-! DEFINITION. Which command words are well formed (30_encoding.md R101, R105), said without the decoder. Every term
of `Instr` is well formed by its type (its one field is a byte), so the checks are on words. -/

namespace Sys2Proof

/-- The opcode, in bits 7:0, is one of 0x00 to 0x06; 0x07 to 0xFF are reserved (R105). -/
def opcodeAssigned (w : Word) : Bool := decide ((w &&& 0xFF#32).toNat ≤ 6)

/-- A Format N word (every opcode but KEYB's) has bits 31:8 zero (R101). -/
def formatNClear (w : Word) : Bool := (w &&& 0xFF#32 == 2#32) || (w &&& 0xFFFFFF00#32 == 0#32)

/-- A Format B word (KEYB) has bits 31:16 zero (R101). -/
def formatBClear (w : Word) : Bool := (w &&& 0xFF#32 != 2#32) || (w &&& 0xFFFF0000#32 == 0#32)

/-- A command word is legal when all three checks hold; every other word is illegal (R105). -/
def wordWellFormed (w : Word) : Bool := opcodeAssigned w && formatNClear w && formatBClear w

end Sys2Proof
end

