-- ==== Sys2Proof/Decode.lean ====
section
/-! DEFINITION. Decoding a command word, total on all 2^32 words and rejecting by name (30_encoding.md R101 to R105),
the encoder, and the opcode table of R103 as data. -/

namespace Sys2Proof

/-- Why a word is illegal (R105). All three raise the same error, IllegalCommand (R252). -/
inductive IllegalWord where
  /-- Bits 7:0 hold a reserved opcode, 0x07 to 0xFF. -/
  | reservedOpcode
  /-- A Format N opcode with bits 31:8 not zero. -/
  | formatNBits
  /-- KEYB's opcode with bits 31:16 not zero. -/
  | formatBBits
  deriving DecidableEq, Repr

/-- The opcode, "always in bits 7:0" (R101). -/
def opcodeOf (w : Word) : BitVec 8 := w.extractLsb' 0 8

/-- `imm8 = w[15:8]` (R102). -/
def imm8Of (w : Word) : Byte := w.extractLsb' 8 8

/-- Format N: bits 31:8 must be zero (R101). -/
def decodeFormatN (w : Word) (i : Instr) : Except IllegalWord Instr :=
  if w.extractLsb' 8 24 = 0#24 then .ok i else .error .formatNBits

/-- Format B: bits 31:16 must be zero, bits 15:8 are the byte (R101, R102). -/
def decodeFormatB (w : Word) (i : Byte → Instr) : Except IllegalWord Instr :=
  if w.extractLsb' 16 16 = 0#16 then .ok (i (imm8Of w)) else .error .formatBBits

/-- `Decode(w)` (R103): the opcode decides the format, and a word that matches no row is illegal (R105). -/
def decode (w : Word) : Except IllegalWord Instr :=
  match (opcodeOf w).toNat with
  | 0 => decodeFormatN w .nop
  | 1 => decodeFormatN w .keyclr
  | 2 => decodeFormatB w .keyb
  | 3 => decodeFormatN w .genh
  | 4 => decodeFormatN w .gent
  | 5 => decodeFormatN w .ack
  | 6 => decodeFormatN w .srst
  | _ => .error .reservedOpcode

/-- A Format N word: 24 zero bits, then the opcode (R101). -/
def encodeFormatN (op : BitVec 8) : Word := 0#24 ++ op

/-- A Format B word: 16 zero bits, imm8, then the opcode (R101). -/
def encodeFormatB (imm8 : Byte) (op : BitVec 8) : Word := (0#16 ++ imm8 : BitVec 24) ++ op

/-- The word of a command (R103). -/
def encode : Instr → Word
  | .nop => encodeFormatN 0x00
  | .keyclr => encodeFormatN 0x01
  | .keyb imm8 => encodeFormatB imm8 0x02
  | .genh => encodeFormatN 0x03
  | .gent => encodeFormatN 0x04
  | .ack => encodeFormatN 0x05
  | .srst => encodeFormatN 0x06

/-- A row of the opcode table: a word is the row's when its masked bits equal the pattern (R103). -/
structure OpcodeRow where
  mnemonic : String
  pattern : Word
  mask : Word
  deriving DecidableEq, Repr

/-- `w & mask = match` (R103). -/
def rowMatches (r : OpcodeRow) (w : Word) : Bool := w &&& r.mask == r.pattern

/-- The row of an instruction, as the table of R103 prints it. -/
def rowOf : Instr → OpcodeRow
  | .nop => ⟨"NOP", 0x00000000, 0xFFFFFFFF⟩
  | .keyclr => ⟨"KEYCLR", 0x00000001, 0xFFFFFFFF⟩
  | .keyb _ => ⟨"KEYB", 0x00000002, 0xFFFF00FF⟩
  | .genh => ⟨"GENH", 0x00000003, 0xFFFFFFFF⟩
  | .gent => ⟨"GENT", 0x00000004, 0xFFFFFFFF⟩
  | .ack => ⟨"ACK", 0x00000005, 0xFFFFFFFF⟩
  | .srst => ⟨"SRST", 0x00000006, 0xFFFFFFFF⟩

/-- The opcode table (R103), in its order. -/
def opcodeTable : List OpcodeRow :=
  [rowOf .nop, rowOf .keyclr, rowOf (.keyb 0), rowOf .genh, rowOf .gent, rowOf .ack, rowOf .srst]

/-- The instruction the decoder reads from a word numbered as the opcode table numbers it: a command is one 32-bit
word (R107) and a register word has no byte order inside the block (R76), so bit k of the number is bit k of the word;
bits at and above `nbits` are zero (notes/assumptions/13.md). -/
def decodeTableWord (nbits w : Nat) : Option Instr :=
  if nbits ≤ 32 then (decode (BitVec.ofNat 32 (w % 2 ^ nbits))).toOption else none

end Sys2Proof
end

