-- ==== Sys2Proof/Config.lean ====
section
/-! DEFINITION. The one parameter the spec leaves open: KEY_MAX, the capacity of the key memory in bytes (00_scope.md R8).
The other open parameter, BUS, appears in no rule and has no value here (notes/assumptions/8.md). -/

namespace Sys2Proof.Config

/-- KEY_MAX less one, as a number below 2^32 − 1 = 4294967295. It has no body: nothing proves a value of it, so every claim
holds for every KEY_MAX the spec allows (R8; DESIGN CHOICE, notes/assumptions/7.md, safe). -/
opaque keyMaxLessOne : Fin 4294967295

/-- KEY_MAX, "a natural number with 1 ≤ KEY_MAX ≤ 2^32 − 1" (R8). -/
def keyMax : Nat := keyMaxLessOne.val + 1

end Sys2Proof.Config
end

