-- ==== Sys2Proof/Machine/State.lean ====
section
/-! DEFINITION. The machine's state as plain data (10_state.md R20 to R58), the events that move it (20_memory.md R85),
the ways a step can stop, and the state after reset. -/

namespace Sys2Proof.Machine

/-- PHASE, the sequencer's position (R36). The values 11 to 15 are never held and have no constructor. -/
inductive Phase where
  /-- 0: no Core step. -/
  | idle
  /-- 1: operand checks. -/
  | check
  /-- 2: select or compute the moving factor. -/
  | mfsel
  /-- 3: 8-byte big-endian encoding. -/
  | encode
  /-- 4: HMAC key block. -/
  | keyprep
  /-- 5: inner hash. -/
  | inner
  /-- 6: outer hash. -/
  | outer
  /-- 7: offset, window, mask, combine. -/
  | trunc
  /-- 8: mod 10^digits. -/
  | reduce
  /-- 9: decimal string. -/
  | format
  /-- 10: the result commit. -/
  | commit
  deriving DecidableEq, Repr

/-- The error codes of ERRCODE (60_exceptions.md R241). -/
inductive ErrCode where
  /-- 0: no error. -/
  | noError
  /-- 1 (R243). -/
  | invalidDigitCount
  /-- 2 (R244). -/
  | invalidMovingFactor
  /-- 3 (R246). -/
  | unsupportedHash
  /-- 4 (R247). -/
  | malformedSecret
  /-- 5 (R248). -/
  | invalidStep
  /-- 6 (R249). -/
  | keyOverflow
  /-- 7 (R252). -/
  | illegalCommand
  deriving DecidableEq, Repr

/-- s_op, one bit: 0 for GENH, 1 for GENT (R55). -/
inductive GenOp where
  /-- 0: GENH. -/
  | genh
  /-- 1: GENT. -/
  | gent
  deriving DecidableEq, Repr

/-- The key memory (R53): (address, byte) pairs, addresses strictly rising, no pair holding the byte 0x00 that an
unlisted address reads as (notes/assumptions/2.md). -/
abbrev Memory := List Host.Cell

/-- The result registers (R42 to R49), each at the width R50 leaves it: its reserved high bits read 0 and are not stored
(notes/assumptions/6.md). -/
structure Results where
  /-- MF[31:0] (R44). -/
  mfLo : Word
  /-- MF[63:32] (R44). -/
  mfHi : Word
  /-- OFFSET[3:0] (R45). -/
  offset : BitVec 4
  /-- TRUNC[30:0] (R46). -/
  trunc : BitVec 31
  /-- CODE[26:0] (R47). -/
  code : BitVec 27
  /-- STRLEN[3:0] (R48). -/
  strlen : BitVec 4
  /-- Code string characters 0 to 3 (R49). -/
  str0 : Word
  /-- Code string characters 4 to 7 (R49). -/
  str1 : Word
  /-- MACLEN[6:0] (R43). -/
  maclen : BitVec 7
  /-- MAC0 to MAC15 (R43). -/
  mac : Vector Word 16
  deriving DecidableEq, Repr

/-- Every result register at 0 ("results cleared", R42). -/
def Results.zero : Results :=
  { mfLo := 0, mfHi := 0, offset := 0, trunc := 0, code := 0, strlen := 0, str0 := 0, str1 := 0, maclen := 0,
    mac := Vector.replicate 16 0 }

/-- The scratch registers (R55), which the Host can neither read nor write. -/
structure Scratch where
  /-- s_op. -/
  op : GenOp
  /-- s_mf, the moving factor. -/
  mf : DWord
  /-- s_msg, the HMAC message. -/
  msg : Vector Byte 8
  /-- s_k0, the key block in bytes 0 to B-1. -/
  k0 : Vector Byte 128
  /-- s_inner, the inner digest in bytes 0 to L-1. -/
  inner : Vector Byte 64
  /-- s_mac, the MAC in bytes 0 to L-1. -/
  mac : Vector Byte 64
  /-- s_off, the truncation offset. -/
  off : BitVec 4
  /-- s_p, the truncated value. -/
  p : BitVec 31
  /-- s_code. -/
  code : BitVec 27
  /-- s_str, the code string in bytes 0 to DIGITS-1. -/
  str : Vector Byte 8
  deriving DecidableEq, Repr

/-- Every scratch register at 0 (R55). -/
def Scratch.zero : Scratch :=
  { op := .genh, mf := 0, msg := Vector.replicate 8 0, k0 := Vector.replicate 128 0, inner := Vector.replicate 64 0,
    mac := Vector.replicate 64 0, off := 0, p := 0, code := 0, str := Vector.replicate 8 0 }

/-- One event of an execution: "each either a Host transaction, a Core step, or a Reset" (R85), and one that
stands for several reads, WAIT (R109). An access that is no transaction (R77) has no constructor: see `BusAnswer`
(Machine/Window.lean). The index of a register is its word offset, `x[i]` at byte offset 4·i (R11). -/
inductive Event where
  /-- `RegRead(4·i)` (R72). -/
  | regRead (i : Fin 64)
  /-- `RegWrite(4·i, v)` (R73). -/
  | regWrite (i : Fin 64) (v : Word)
  /-- One Core step (R134). -/
  | core
  /-- Reset asserted (R280). -/
  | reset
  /-- The pseudo-instruction WAIT: read STATUS until BUSY = 0 (R109; notes/assumptions/9.md). -/
  | wait
  deriving DecidableEq, Repr

/-- The state of one OTPCORE instance (R20), and the Host's side of the interface: what is still to happen
(`pending`) and what its reads returned (`replies`). -/
structure State where
  /-- ALG, the hash algorithm selector (R23). -/
  alg : Word
  /-- DIGITS, the digit count (R24). -/
  digits : Word
  /-- CTR[31:0] (R25). -/
  ctrLo : Word
  /-- CTR[63:32] (R25). -/
  ctrHi : Word
  /-- NOW[31:0] (R26). -/
  nowLo : Word
  /-- NOW[63:32] (R26). -/
  nowHi : Word
  /-- T0[31:0] (R27). -/
  t0Lo : Word
  /-- T0[63:32] (R27). -/
  t0Hi : Word
  /-- STEP[31:0] (R28). -/
  stepLo : Word
  /-- STEP[63:32] (R28). -/
  stepHi : Word
  /-- STATUS.BUSY (R33). -/
  busy : Bool
  /-- STATUS.DONE (R34). -/
  done : Bool
  /-- STATUS.ERR (R35). -/
  err : Bool
  /-- STATUS.WRDROP (R37). -/
  wrdrop : Bool
  /-- STATUS.KEYOVF (R38). -/
  keyovf : Bool
  /-- STATUS.PHASE (R36). -/
  phase : Phase
  /-- ERRCODE (R39). -/
  errcode : ErrCode
  /-- IEN[1:0]: bit 0 DONE_IE, bit 1 ERR_IE (R40). -/
  ien : BitVec 2
  /-- KEYLEN (R41). -/
  keylen : Word
  /-- The key memory KEY (R53). -/
  key : Memory
  /-- The result registers (R42). -/
  results : Results
  /-- The scratch registers (R55). -/
  scratch : Scratch
  /-- The MODEL's own field: the rest of the execution's event sequence (R85; notes/assumptions/1.md). -/
  pending : List Event
  /-- The MODEL's own field: the words RegRead returned, newest first (R72; notes/assumptions/3.md). -/
  replies : List Word
  deriving DecidableEq, Repr

/-- Where a unit is used outside the operands the spec defines it for. None of these is reached from reset
(Obligations.StepFromGoodStateAnswersNext); each is safe, since the model stops. -/
inductive Fault where
  /-- KEYB would write the key memory at or above KEY_MAX, where no byte exists (R53, R71); raised by KEYB when
  KEYLEN > KEY_MAX. Safe (notes/assumptions/5.md). -/
  | keyAddress
  /-- A phase after CHECK finds ALG > 2, for which the selector is "undefined" (R160). Safe (notes/assumptions/4.md). -/
  | selector
  /-- REDUCE or FORMAT finds DIGITS > 8, outside the table of powers of ten (R210, R213). Safe
  (notes/assumptions/4.md). -/
  | powerIndex
  /-- MFSEL of a GENT finds STEP = 0 or NOW < T0, where TimeStep is not defined (R221). Safe
  (notes/assumptions/4.md). -/
  | timeStep
  deriving DecidableEq, Repr

/-- Why an instruction has no meaning. -/
inductive Refusal where
  /-- Raised only by an arm of `exec` whose instruction is not modelled; no arm is. Safe. -/
  | notModelled (mnemonic : String)
  deriving DecidableEq, Repr

/-- The outcome of a step or of an operation of this machine. -/
abbrev Result := Host.Outcome State Fault Refusal

/-- The state after Reset (R58): everything 0 but STEP = 30; nothing pending and nothing read. -/
def State.reset : State :=
  { alg := 0, digits := 0, ctrLo := 0, ctrHi := 0, nowLo := 0, nowHi := 0, t0Lo := 0, t0Hi := 0, stepLo := 30,
    stepHi := 0, busy := false, done := false, err := false, wrdrop := false, keyovf := false, phase := .idle,
    errcode := .noError, ien := 0, keylen := 0, key := [], results := Results.zero, scratch := Scratch.zero,
    pending := [], replies := [] }

end Sys2Proof.Machine
end

