-- ==== Sys2Proof/Machine/Bytes.lean ====
section
/-! DEFINITION. Byte strings, byte order and bit moves (00_scope.md R10, 20_memory.md R75, R76): every conversion between
numbers and bytes is decided here, once. -/

namespace Sys2Proof.Machine

/-- `be_n(v)`: the n-byte big-endian string of v, `be_n(v)[i] = v[8(n−i)−1 : 8(n−1−i)]` (R10). -/
def beBytes (n v : Nat) : List Byte :=
  (List.range n).map fun i => BitVec.ofNat 8 (v >>> (8 * (n - 1 - i)))

/-- `val(s)`: the number whose big-endian bytes are s (R10). -/
def bytesVal (s : List Byte) : Nat := s.foldl (fun acc b => acc * 256 + b.toNat) 0

/-- `zero(n)`: n bytes 0x00 (R10). -/
def zeros (n : Nat) : List Byte := List.replicate n 0

/-- `s ⊕ c`: every byte of s exclusive-ored with the byte c (R10). -/
def xorBytes (s : List Byte) (c : Byte) : List Byte := s.map (· ^^^ c)

/-- `s ‖ zero(n − len(s))` as the content of an n-byte register; s has at most n bytes wherever this is used. -/
def padTo (n : Nat) (s : List Byte) : Vector Byte n :=
  ⟨((s ++ zeros n).take n).toArray, by simp [zeros]⟩

/-- `val(s[4i..4i+3])`: word i of a byte string, its first byte in bits 31:24 (R76). -/
def wordAt (s : List Byte) (i : Nat) : Word := BitVec.ofNat 32 (bytesVal ((s.drop (4 * i)).take 4))

/-- `ROTL_N(x, n)` (R10). -/
def rotl {w : Nat} (x : BitVec w) (n : Nat) : BitVec w := (x <<< n) ||| (x >>> (w - n))

/-- `ROTR_N(x, n)` (R10). -/
def rotr {w : Nat} (x : BitVec w) (n : Nat) : BitVec w := (x >>> n) ||| (x <<< (w - n))

/-- One bit as a 32-bit word. -/
def bit (b : Bool) : Word := if b then 1 else 0

end Sys2Proof.Machine
end

