-- ==== Sys2Proof/Machine/Ops.lean ====
section
/-! DEFINITION. The named operations over the key memory and the registers, and taking an error: every change of state
that more than one rule speaks of is written here once. -/

namespace Sys2Proof.Machine

/-- The byte of the key memory at an address; an address not listed holds 0x00 (R53, R121; notes/assumptions/2.md). -/
def Memory.read : Memory → Nat → Byte
  | [], _ => 0
  | (b, v) :: rest, a => if a = b then v else Memory.read rest a

/-- `KEY[a] <- v`, keeping the canonical form: rising addresses, no byte 0x00 listed. -/
def Memory.write : Memory → Nat → Byte → Memory
  | [], a, v => if v = 0 then [] else [(a, v)]
  | (b, x) :: rest, a, v =>
    if a < b then (if v = 0 then (b, x) :: rest else (a, v) :: (b, x) :: rest)
    else if a = b then (if v = 0 then rest else (a, v) :: rest)
    else (b, x) :: Memory.write rest a v

/-- The canonical form holds: addresses strictly rising and no entry equal to what an unlisted address reads as. -/
def Memory.wf : Memory → Bool
  | [] => true
  | (a, v) :: rest => v != 0 && rest.all (fun c => decide (a < c.1)) && Memory.wf rest

/-- `MemRead(KEYMEM, a, n)`: the n bytes from address a on (R11). -/
def Memory.readBytes (m : Memory) (a n : Nat) : List Byte := (List.range n).map fun i => m.read (a + i)

/-- `drop`: the write changes nothing but WRDROP (R11, R290). -/
def State.dropWrite (s : State) : State := { s with wrdrop := true }

/-- A command or operand write that is taken only while BUSY = 0 and dropped otherwise (R100, R290). -/
def whenIdle (s : State) (taken : Result) : Result := if s.busy then .next s.dropWrite else taken

/-- "results cleared": every result register to 0 (R42). -/
def State.clearResults (s : State) : State := { s with results := Results.zero }

/-- Every scratch register to 0 (R55). -/
def State.clearScratch (s : State) : State := { s with scratch := Scratch.zero }

/-- The outcome of the last command is taken away: DONE, ERR, ERRCODE and the results to 0 (R132, R231). -/
def State.clearOutcome (s : State) : State :=
  { s.clearResults with done := false, err := false, errcode := .noError }

/-- `Accept(op)` (R132). -/
def State.accept (op : GenOp) (s : State) : State :=
  { s.clearOutcome with scratch := { s.scratch with op := op }, busy := true, phase := .check }

/-- What every error records: ERR and the code in ERRCODE, nothing else (R35, R39, R242). -/
def State.setError (e : ErrCode) (s : State) : State := { s with err := true, errcode := e }

/-- Taking an error from phase CHECK: the error commit (R251). Nothing is saved and no vector is fetched. -/
def State.errorCommit (e : ErrCode) (s : State) : State :=
  { (s.setError e).clearScratch with busy := false, phase := .idle }

/-- Taking IllegalCommand: the commit inside the Host's write (R252). A previous result is wiped. -/
def State.illegalCommand (s : State) : State :=
  { (s.setError .illegalCommand).clearResults with done := false }

/-- The return from an error, and the end of a result: ACK's effect (R231, R254). -/
def State.acknowledge (s : State) : State := { s.clearOutcome with wrdrop := false }

/-- Reset: every piece of the block's state to its reset value (R280); the Host's side of the interface is no state of the
block. -/
def State.hardReset (s : State) : State := { State.reset with pending := s.pending, replies := s.replies }

/-- SRST's effect: Reset but for IEN (R232, R281). -/
def State.softReset (s : State) : State := { s.hardReset with ien := s.ien }

/-- The key memory emptied (R121). -/
def State.clearKey (s : State) : State := { s with keylen := 0, key := [], keyovf := false }

/-- KEYB's effect (R122, R123): nothing after an overflow; KEYOVF when the memory is full; otherwise
`MemWrite(KEYMEM, KEYLEN, 1, b)` and KEYLEN + 1. A write at or above KEY_MAX, where the key memory has no byte, stops
(notes/assumptions/5.md). -/
def State.appendKey (b : Byte) (s : State) : Result :=
  if s.keyovf then .next s
  else if s.keylen.toNat = Config.keyMax then .next { s with keyovf := true }
  else if s.keylen.toNat < Config.keyMax then
    .next { s with key := s.key.write s.keylen.toNat b, keylen := s.keylen + 1 }
  else .fault .keyAddress

/-- A word RegRead returns goes to the Host; the block's state does not change (R72). -/
def State.reply (v : Word) (s : State) : State := { s with replies := v :: s.replies }

end Sys2Proof.Machine
end

