-- ==== Sys2Proof/Machine/Control.lean ====
section
/-! DEFINITION. The meanings of ACK and SRST (48_control_commands.md). -/

namespace Sys2Proof.Machine

/-- ACK: the outcome and WRDROP are cleared, while idle (R231). -/
def execAck (s : State) : Result := whenIdle s (.next s.acknowledge)

/-- SRST: taken at any time, "the only command taken while BUSY = 1" (R232). -/
def execSrst (s : State) : Result := .next s.softReset

end Sys2Proof.Machine
end

