-- ==== Sys2Proof/Machine/Generate.lean ====
section
/-! DEFINITION. The meanings of GENH and GENT (41_generate_commands.md R130, R131): the acceptance; the rest is the
Core's (Machine/Sequencer.lean). -/

namespace Sys2Proof.Machine

/-- GENH: `Accept(0)` while idle (R130, R132). -/
def execGenh (s : State) : Result := whenIdle s (.next (s.accept .genh))

/-- GENT: `Accept(1)` while idle (R131, R132). -/
def execGent (s : State) : Result := whenIdle s (.next (s.accept .gent))

end Sys2Proof.Machine
end

