-- ==== Sys2Proof/Machine/KeyCommands.lean ====
section
/-! DEFINITION. The meanings of NOP, KEYCLR and KEYB (40_key_commands.md), each taken only while BUSY = 0. -/

namespace Sys2Proof.Machine

/-- NOP: no state changes while idle (R120). -/
def execNop (s : State) : Result := whenIdle s (.next s)

/-- KEYCLR: the key memory is emptied (R121). -/
def execKeyclr (s : State) : Result := whenIdle s (.next s.clearKey)

/-- KEYB: the next byte of the secret (R122, R123). -/
def execKeyb (imm8 : Byte) (s : State) : Result := whenIdle s (s.appendKey imm8)

end Sys2Proof.Machine
end

