-- ==== Sys2Proof/Machine/Dispatch.lean ====
section
/-! DEFINITION. The meaning of each command (30_encoding.md R100): one arm per row of the opcode table. -/

namespace Sys2Proof.Machine

def exec (i : Instr) (s : State) : Host.Outcome State Fault Refusal :=
  match i with
  | .nop => Sys2Proof.Machine.execNop s
  | .keyclr => Sys2Proof.Machine.execKeyclr s
  | .keyb imm8 => Sys2Proof.Machine.execKeyb imm8 s
  | .genh => Sys2Proof.Machine.execGenh s
  | .gent => Sys2Proof.Machine.execGent s
  | .ack => Sys2Proof.Machine.execAck s
  | .srst => Sys2Proof.Machine.execSrst s

end Sys2Proof.Machine
end

