-- ==== Sys2Proof/Machine/Flags.lean ====
section
/-! DEFINITION. The status word, the numbers of phases and errors, and the interrupt output (10_state.md R32, R36, R39,
R52). -/

namespace Sys2Proof.Machine

/-- The value of PHASE (R36). -/
def phaseNumber : Phase → Nat
  | .idle => 0
  | .check => 1
  | .mfsel => 2
  | .encode => 3
  | .keyprep => 4
  | .inner => 5
  | .outer => 6
  | .trunc => 7
  | .reduce => 8
  | .format => 9
  | .commit => 10

/-- The number of an error (R241). -/
def errNumber : ErrCode → Nat
  | .noError => 0
  | .invalidDigitCount => 1
  | .invalidMovingFactor => 2
  | .unsupportedHash => 3
  | .malformedSecret => 4
  | .invalidStep => 5
  | .keyOverflow => 6
  | .illegalCommand => 7

/-- The word of STATUS: `(PHASE<<8)|(KEYOVF<<4)|(WRDROP<<3)|(ERR<<2)|(DONE<<1)|BUSY` (R32). -/
def State.statusWord (s : State) : Word :=
  (BitVec.ofNat 32 (phaseNumber s.phase) <<< 8) ||| (bit s.keyovf <<< 4) ||| (bit s.wrdrop <<< 3) |||
    (bit s.err <<< 2) ||| (bit s.done <<< 1) ||| bit s.busy

/-- The interrupt output: `(DONE & IEN[0]) | (ERR & IEN[1])`, a function of the state (R52). -/
def State.irq (s : State) : Bool := (s.done && s.ien.getLsbD 0) || (s.err && s.ien.getLsbD 1)

end Sys2Proof.Machine
end

