-- ==== Sys2Proof/Machine/Sha.lean ====
section
/-! DEFINITION. What the three hash functions share: padding, cutting into blocks, loading words, adding the working
variables into the chaining value and storing it (44_sha.md R170 to R172, R175, R181, R187). -/

namespace Sys2Proof.Machine

/-- The number of zero bytes of the padding: the least z with (n + 1 + z + lb) mod B = 0 (R172). -/
def padZeros (n B lb : Nat) : Nat := (B - (n + 1 + lb) % B) % B

/-- `Pad(m, B, lb)`: the message, 0x80, zeros, and the length in bits as lb big-endian bytes (R172). -/
def shaPad (m : List Byte) (B lb : Nat) : List Byte :=
  m ++ [0x80#8] ++ zeros (padZeros m.length B lb) ++ beBytes lb (8 * m.length)

/-- The first k blocks of B bytes, in order. -/
def blocks (B : Nat) : Nat → List Byte → List (List Byte)
  | 0, _ => []
  | k + 1, p => p.take B :: blocks B k (p.drop B)

/-- The padded message cut into blocks of B bytes (R172). -/
def shaBlocks (m : List Byte) (B lb : Nat) : List (List Byte) :=
  blocks B ((shaPad m B lb).length / B) (shaPad m B lb)

/-- Words 0 to 15 of a block, loaded big-endian, wb bytes each (R171). -/
def blockWords (w wb : Nat) (block : List Byte) : List (BitVec w) :=
  (List.range 16).map fun t => BitVec.ofNat w (bytesVal ((block.drop (wb * t)).take wb))

/-- A chaining value, or the working variables of a compression: H0, H1, ... or a, b, ... in order. -/
abbrev HashWords (w : Nat) := List (BitVec w)

/-- Word i of a chaining value; i is below the number of its words wherever this is used. -/
def hashWord {w : Nat} (h : HashWords w) (i : Nat) : BitVec w := h.getD i 0

/-- The end of a compression: each working variable added to its chaining word, modulo 2^w (R175, R181, R187). -/
def chain {w : Nat} (h v : HashWords w) : HashWords w := List.zipWith (· + ·) h v

/-- The first n chaining words stored big-endian, wb bytes each, H0 first (R171). -/
def hashDigest {w : Nat} (wb n : Nat) (h : HashWords w) : List Byte :=
  (List.range n).flatMap fun i => beBytes wb (hashWord h i).toNat

/-- A line of n constants of the spec, written as one number: its words, the first from the top (R171). -/
def constantLine (w n v : Nat) : HashWords w := (List.range n).map fun i => BitVec.ofNat w (v >>> (w * (n - 1 - i)))

end Sys2Proof.Machine
end

