-- ==== Sys2Proof/Machine/Sha1.lean ====
section
/-! DEFINITION. SHA-1 (44_sha.md R173 to R176): B = 64, L = 20, 80 rounds on 32-bit words. -/

namespace Sys2Proof.Machine

/-- H0 to H4 (R173). -/
def sha1Init : HashWords 32 := constantLine 32 5 0x67452301_efcdab89_98badcfe_10325476_c3d2e1f0

/-- K(t) (R173). -/
def sha1K (t : Nat) : Word :=
  if t < 20 then 0x5a827999 else if t < 40 then 0x6ed9eba1 else if t < 60 then 0x8f1bbcdc else 0xca62c1d6

/-- f(t, b, c, d): choose, parity, majority, parity (R174). -/
def sha1F (t : Nat) (b c d : Word) : Word :=
  if t < 20 then (b &&& c) ||| (~~~b &&& d)
  else if t < 40 then b ^^^ c ^^^ d
  else if t < 60 then (b &&& c) ||| (b &&& d) ||| (c &&& d)
  else b ^^^ c ^^^ d

/-- n more words of the message schedule, in front of those there are: the newest word stands first, so W[t-3] is at
index 2, W[t-8] at 7, W[t-14] at 13, W[t-16] at 15 (R175). -/
def sha1Extend : Nat → List Word → List Word
  | 0, ws => ws
  | n + 1, ws =>
    sha1Extend n (rotl (ws.getD 2 0 ^^^ ws.getD 7 0 ^^^ ws.getD 13 0 ^^^ ws.getD 15 0) 1 :: ws)

/-- W[0] to W[79] (R175). -/
def sha1Schedule (block : List Byte) : List Word := (sha1Extend 64 (blockWords 32 4 block).reverse).reverse

/-- Round t with W[t], on a to e at 0 to 4: every variable moves one place on, e drops out, T becomes the new a, and the
old b, the new c, is rotated by 30 (R175). -/
def sha1Round (v : HashWords 32) (tw : Nat × Word) : HashWords 32 :=
  let sum := rotl (hashWord v 0) 5 + sha1F tw.1 (hashWord v 1) (hashWord v 2) (hashWord v 3) + hashWord v 4 +
    sha1K tw.1 + tw.2
  sum :: (v.take 4).modify 1 (rotl · 30)

/-- `Compress1` (R175). -/
def sha1Compress (h : HashWords 32) (block : List Byte) : HashWords 32 :=
  chain h (((List.range 80).zip (sha1Schedule block)).foldl sha1Round h)

/-- `SHA1(m)`: 20 bytes (R176). -/
def sha1 (m : List Byte) : List Byte := hashDigest 4 5 ((shaBlocks m 64 8).foldl sha1Compress sha1Init)

end Sys2Proof.Machine
end

