-- ==== Sys2Proof/Machine/Sha2.lean ====
section
/-! DEFINITION. SHA-256 and SHA-512 (44_sha.md R178 to R189): one compression over the word width, the constants and the
rotation amounts; the two functions differ in nothing else. -/

namespace Sys2Proof.Machine

/-- What tells SHA-256 from SHA-512. -/
structure Sha2Params (w : Nat) where
  /-- Bytes in a word: w / 8 (R171). -/
  wordBytes : Nat
  /-- Block size B in bytes (R160). -/
  block : Nat
  /-- Size of the length field in bytes (R172). -/
  lenBytes : Nat
  /-- H0 to H7 (R178, R184). -/
  init : HashWords w
  /-- The round constants, one per round (R179, R185). -/
  k : HashWords w
  /-- The three rotations of BSIG0 (R180, R186). -/
  bsig0 : List Nat
  /-- The three rotations of BSIG1. -/
  bsig1 : List Nat
  /-- The two rotations of SSIG0 and its shift. -/
  ssig0 : List Nat × Nat
  /-- The two rotations of SSIG1 and its shift. -/
  ssig1 : List Nat × Nat

/-- The exclusive or of a word rotated right by each of the amounts. -/
def xorRotations {w : Nat} (amounts : List Nat) (x : BitVec w) : BitVec w :=
  amounts.foldl (fun acc n => acc ^^^ rotr x n) 0

/-- SSIG: rotations and one logical shift (R180, R186). -/
def ssig {w : Nat} (amounts : List Nat × Nat) (x : BitVec w) : BitVec w := xorRotations amounts.1 x ^^^ (x >>> amounts.2)

/-- Ch: a bit of y where x has 1, of z where x has 0 (R180, R186). -/
def sha2Ch {w : Nat} (x y z : BitVec w) : BitVec w := (x &&& y) ^^^ (~~~x &&& z)

/-- Maj: the majority of three bits (R180, R186). -/
def sha2Maj {w : Nat} (x y z : BitVec w) : BitVec w := (x &&& y) ^^^ (x &&& z) ^^^ (y &&& z)

/-- n more words of the message schedule, the newest first: W[t-2] is at index 1, W[t-7] at 6, W[t-15] at 14, W[t-16] at
15 (R181, R187). -/
def sha2Extend {w : Nat} (p : Sha2Params w) : Nat → HashWords w → HashWords w
  | 0, ws => ws
  | n + 1, ws =>
    sha2Extend p n ((ssig p.ssig1 (hashWord ws 1) + hashWord ws 6 + ssig p.ssig0 (hashWord ws 14) + hashWord ws 15) :: ws)

/-- W[0] to the last word, one per round (R181, R187). -/
def sha2Schedule {w : Nat} (p : Sha2Params w) (block : List Byte) : HashWords w :=
  (sha2Extend p (p.k.length - 16) (blockWords w p.wordBytes block).reverse).reverse

/-- T1 of a round, kw being K[t] and W[t], on a to h at 0 to 7 (R181, R187). -/
def sha2T1 {w : Nat} (p : Sha2Params w) (v : HashWords w) (kw : BitVec w × BitVec w) : BitVec w :=
  hashWord v 7 + xorRotations p.bsig1 (hashWord v 4) + sha2Ch (hashWord v 4) (hashWord v 5) (hashWord v 6) + kw.1 + kw.2

/-- T2 of a round (R181, R187). -/
def sha2T2 {w : Nat} (p : Sha2Params w) (v : HashWords w) : BitVec w :=
  xorRotations p.bsig0 (hashWord v 0) + sha2Maj (hashWord v 0) (hashWord v 1) (hashWord v 2)

/-- One round: every variable moves one place on, h drops out, T1 + T2 becomes the new a, and T1 is added to the old d,
the new e (R181, R187). -/
def sha2Round {w : Nat} (p : Sha2Params w) (v : HashWords w) (kw : BitVec w × BitVec w) : HashWords w :=
  (sha2T1 p v kw + sha2T2 p v) :: (v.take 7).modify 3 (· + sha2T1 p v kw)

/-- `Compress256`, `Compress512` (R181, R187). -/
def sha2Compress {w : Nat} (p : Sha2Params w) (h : HashWords w) (block : List Byte) : HashWords w :=
  chain h ((p.k.zip (sha2Schedule p block)).foldl (sha2Round p) h)

/-- The hash of a message: pad, then compress each block in order (R182, R189). -/
def sha2 {w : Nat} (p : Sha2Params w) (m : List Byte) : List Byte :=
  hashDigest p.wordBytes 8 ((shaBlocks m p.block p.lenBytes).foldl (sha2Compress p) p.init)

/-- The lines of R179: K[0] to K[63] of SHA-256, eight to a line. -/
def sha256K : HashWords 32 :=
  [0x428a2f98_71374491_b5c0fbcf_e9b5dba5_3956c25b_59f111f1_923f82a4_ab1c5ed5,
   0xd807aa98_12835b01_243185be_550c7dc3_72be5d74_80deb1fe_9bdc06a7_c19bf174,
   0xe49b69c1_efbe4786_0fc19dc6_240ca1cc_2de92c6f_4a7484aa_5cb0a9dc_76f988da,
   0x983e5152_a831c66d_b00327c8_bf597fc7_c6e00bf3_d5a79147_06ca6351_14292967,
   0x27b70a85_2e1b2138_4d2c6dfc_53380d13_650a7354_766a0abb_81c2c92e_92722c85,
   0xa2bfe8a1_a81a664b_c24b8b70_c76c51a3_d192e819_d6990624_f40e3585_106aa070,
   0x19a4c116_1e376c08_2748774c_34b0bcb5_391c0cb3_4ed8aa4a_5b9cca4f_682e6ff3,
   0x748f82ee_78a5636f_84c87814_8cc70208_90befffa_a4506ceb_bef9a3f7_c67178f2].flatMap
    (constantLine 32 8)

/-- SHA-256: B = 64, 64 rounds on 32-bit words (R178 to R181). -/
def sha256Params : Sha2Params 32 :=
  { wordBytes := 4, block := 64, lenBytes := 8
    init := constantLine 32 8 0x6a09e667_bb67ae85_3c6ef372_a54ff53a_510e527f_9b05688c_1f83d9ab_5be0cd19
    k := sha256K
    bsig0 := [2, 13, 22], bsig1 := [6, 11, 25], ssig0 := ([7, 18], 3), ssig1 := ([17, 19], 10) }

/-- `SHA256(m)`: 32 bytes (R182). -/
def sha256 (m : List Byte) : List Byte := sha2 sha256Params m

/-- The lines of R185: K[0] to K[79] of SHA-512, four to a line. -/
def sha512K : HashWords 64 :=
  [0x428a2f98d728ae22_7137449123ef65cd_b5c0fbcfec4d3b2f_e9b5dba58189dbbc,
   0x3956c25bf348b538_59f111f1b605d019_923f82a4af194f9b_ab1c5ed5da6d8118,
   0xd807aa98a3030242_12835b0145706fbe_243185be4ee4b28c_550c7dc3d5ffb4e2,
   0x72be5d74f27b896f_80deb1fe3b1696b1_9bdc06a725c71235_c19bf174cf692694,
   0xe49b69c19ef14ad2_efbe4786384f25e3_0fc19dc68b8cd5b5_240ca1cc77ac9c65,
   0x2de92c6f592b0275_4a7484aa6ea6e483_5cb0a9dcbd41fbd4_76f988da831153b5,
   0x983e5152ee66dfab_a831c66d2db43210_b00327c898fb213f_bf597fc7beef0ee4,
   0xc6e00bf33da88fc2_d5a79147930aa725_06ca6351e003826f_142929670a0e6e70,
   0x27b70a8546d22ffc_2e1b21385c26c926_4d2c6dfc5ac42aed_53380d139d95b3df,
   0x650a73548baf63de_766a0abb3c77b2a8_81c2c92e47edaee6_92722c851482353b,
   0xa2bfe8a14cf10364_a81a664bbc423001_c24b8b70d0f89791_c76c51a30654be30,
   0xd192e819d6ef5218_d69906245565a910_f40e35855771202a_106aa07032bbd1b8,
   0x19a4c116b8d2d0c8_1e376c085141ab53_2748774cdf8eeb99_34b0bcb5e19b48a8,
   0x391c0cb3c5c95a63_4ed8aa4ae3418acb_5b9cca4f7763e373_682e6ff3d6b2b8a3,
   0x748f82ee5defb2fc_78a5636f43172f60_84c87814a1f0ab72_8cc702081a6439ec,
   0x90befffa23631e28_a4506cebde82bde9_bef9a3f7b2c67915_c67178f2e372532b,
   0xca273eceea26619c_d186b8c721c0c207_eada7dd6cde0eb1e_f57d4f7fee6ed178,
   0x06f067aa72176fba_0a637dc5a2c898a6_113f9804bef90dae_1b710b35131c471b,
   0x28db77f523047d84_32caab7b40c72493_3c9ebe0a15c9bebc_431d67c49c100d4c,
   0x4cc5d4becb3e42b6_597f299cfc657e2a_5fcb6fab3ad6faec_6c44198c4a475817].flatMap
    (constantLine 64 4)

/-- SHA-512: B = 128, 80 rounds on 64-bit words, a 16-byte length field (R184 to R187). -/
def sha512Params : Sha2Params 64 :=
  { wordBytes := 8, block := 128, lenBytes := 16
    init :=
      [0x6a09e667f3bcc908_bb67ae8584caa73b_3c6ef372fe94f82b_a54ff53a5f1d36f1,
       0x510e527fade682d1_9b05688c2b3e6c1f_1f83d9abfb41bd6b_5be0cd19137e2179].flatMap (constantLine 64 4)
    k := sha512K
    bsig0 := [28, 34, 39], bsig1 := [14, 18, 41], ssig0 := ([1, 8], 7), ssig1 := ([19, 61], 6) }

/-- `SHA512(m)`: 64 bytes (R189). -/
def sha512 (m : List Byte) : List Byte := sha2 sha512Params m

end Sys2Proof.Machine
end

