-- ==== Sys2Proof/Machine/Hmac.lean ====
section
/-! DEFINITION. The hash-algorithm selector and HMAC (43_hmac.md R160 to R164). -/

namespace Sys2Proof.Machine

/-- The closed set of algorithms (R160, R167). -/
inductive HashAlg where
  /-- ALG = 0. -/
  | sha1
  /-- ALG = 1. -/
  | sha256
  /-- ALG = 2. -/
  | sha512
  deriving DecidableEq, Repr

/-- The selector: ALG 0, 1, 2; any other value selects nothing (R23, R160). -/
def selectHash (alg : Word) : Option HashAlg :=
  match alg.toNat with
  | 0 => some .sha1
  | 1 => some .sha256
  | 2 => some .sha512
  | _ => none

/-- B, the block size in bytes (R160). -/
def blockSize : HashAlg → Nat
  | .sha1 => 64
  | .sha256 => 64
  | .sha512 => 128

/-- L, the output size in bytes: the MAC length (R160). -/
def macLength : HashAlg → Nat
  | .sha1 => 20
  | .sha256 => 32
  | .sha512 => 64

/-- H (R160). -/
def hashOf : HashAlg → List Byte → List Byte
  | .sha1 => sha1
  | .sha256 => sha256
  | .sha512 => sha512

/-- `K0(alg, key)`: a key longer than B is hashed first; the result is padded with zeros to B bytes (R161). -/
def keyBlock (a : HashAlg) (key : List Byte) : List Byte :=
  let k := if key.length > blockSize a then hashOf a key else key
  k ++ zeros (blockSize a - k.length)

/-- `InnerHash(alg, k0, msg)` (R162). -/
def innerHash (a : HashAlg) (k0 msg : List Byte) : List Byte := hashOf a (xorBytes k0 0x36 ++ msg)

/-- `OuterHash(alg, k0, inner)` (R163). -/
def outerHash (a : HashAlg) (k0 inner : List Byte) : List Byte := hashOf a (xorBytes k0 0x5C ++ inner)

/-- `Hmac(alg, key, msg)`: L bytes, never truncated (R164). -/
def hmac (a : HashAlg) (key msg : List Byte) : List Byte :=
  outerHash a (keyBlock a key) (innerHash a (keyBlock a key) msg)

end Sys2Proof.Machine
end

