-- ==== Sys2Proof/Machine/Units.lean ====
section
/-! DEFINITION. The small units of the pipeline: the encoder (42_encoder.md), the truncation unit (45_truncation.md), the
reduction unit and the formatter (46_reduction_format.md) and the time-step front end (47_timestep.md). -/

namespace Sys2Proof.Machine

/-- `Enc64(mf)`: the 8-byte big-endian message (R150). -/
def enc64 (mf : DWord) : List Byte := beBytes 8 mf.toNat

/-- Nibble select: `mac[L−1] & 0x0F` (R200). -/
def truncOffset (mac : List Byte) : BitVec 4 := (mac.getD (mac.length - 1) 0).extractLsb' 0 4

/-- Window extract, mask and combine from a given offset (R201 to R203). The window is inside the MAC for every
algorithm (R205), so the default of `getD` is never used there. -/
def truncValue (mac : List Byte) (off : Nat) : BitVec 31 :=
  (((mac.getD off 0 &&& 0x7F).setWidth 31) <<< 24) ||| (((mac.getD (off + 1) 0).setWidth 31) <<< 16) |||
    (((mac.getD (off + 2) 0).setWidth 31) <<< 8) ||| ((mac.getD (off + 3) 0).setWidth 31)

/-- `Trunc(mac)` (R204). -/
def trunc (mac : List Byte) : BitVec 4 × BitVec 31 := (truncOffset mac, truncValue mac (truncOffset mac).toNat)

/-- POW10, nine entries, 10^0 to 10^8 (R210). -/
def pow10Table : List Nat := [1, 10, 100, 1000, 10000, 100000, 1000000, 10000000, 100000000]

/-- `POW10[k]`; there is no entry for k ≥ 9 (R210, R213). -/
def pow10 (k : Nat) : Option Nat := pow10Table[k]?

/-- `Reduce(P, digits) = P mod POW10[digits]` (R211); none where the table has no entry. -/
def reduceCode (p : BitVec 31) (digits : Nat) : Option (BitVec 27) :=
  (pow10 digits).map fun d => BitVec.ofNat 27 (p.toNat % d)

/-- `d_i = (code div POW10[digits−1−i]) mod 10` as an ASCII character (R214). -/
def digitChar (code digits i : Nat) : Byte := BitVec.ofNat 8 (0x30 + code / 10 ^ (digits - 1 - i) % 10)

/-- `Format(code, digits)`: exactly `digits` characters, the most significant first (R214), the powers computed as R210
allows; none for digits > 8, which neither the table nor s_str has room for. -/
def formatCode (code : BitVec 27) (digits : Nat) : Option (List Byte) :=
  if digits ≤ 8 then some ((List.range digits).map (digitChar code.toNat digits)) else none

/-- `TimeStep(now, t0, step)`: the floor of the exact quotient, defined only for step ≥ 1 and now ≥ t0 (R221). -/
def timeStep (now t0 step : DWord) : Option DWord :=
  if step = 0 ∨ now < t0 then none else some ((now - t0) / step)

end Sys2Proof.Machine
end

