-- ==== Sys2Proof/Machine/Operands.lean ====
section
/-! DEFINITION. The implicit operands of GENH and GENT (30_encoding.md R104) and the checks on them (60_exceptions.md
R250). -/

namespace Sys2Proof.Machine

/-- `CTR = CTR_HI ‖ CTR_LO` (R25). -/
def State.ctr (s : State) : DWord := s.ctrHi ++ s.ctrLo

/-- `NOW = NOW_HI ‖ NOW_LO` (R26). -/
def State.now (s : State) : DWord := s.nowHi ++ s.nowLo

/-- `T0 = T0_HI ‖ T0_LO` (R27). -/
def State.t0 (s : State) : DWord := s.t0Hi ++ s.t0Lo

/-- `STEP = STEP_HI ‖ STEP_LO` (R28). -/
def State.stepSeconds (s : State) : DWord := s.stepHi ++ s.stepLo

/-- The secret: `KEY[0..KEYLEN−1]` (R53, R104). -/
def State.secret (s : State) : List Byte := s.key.readBytes 0 s.keylen.toNat

/-- The moving factor: CTR for GENH, the time step for GENT (R136); none where TimeStep is not defined. -/
def State.movingFactor (op : GenOp) (s : State) : Option DWord :=
  match op with
  | .genh => some s.ctr
  | .gent => timeStep s.now s.t0 s.stepSeconds

/-- `CheckErrors(op)`, the first cause that holds in the order of R250; all comparisons are unsigned and on the whole
register. -/
def checkErrors (op : GenOp) (s : State) : ErrCode :=
  if s.digits.toNat < 1 ∨ 8 < s.digits.toNat then .invalidDigitCount
  else if op = .gent ∧ s.stepSeconds = 0 then .invalidStep
  else if op = .gent ∧ s.now < s.t0 then .invalidMovingFactor
  else if 2 < s.alg.toNat then .unsupportedHash
  else if s.keyovf then .keyOverflow
  else if s.keylen = 0 then .malformedSecret
  else .noError

end Sys2Proof.Machine
end

