-- ==== Sys2Proof/Machine/Sequencer.lean ====
section
/-! DEFINITION. The Core: one step per phase (41_generate_commands.md R133 to R143), and the Core step (R134). -/

namespace Sys2Proof.Machine

/-- A unit behind the selector, for the algorithm ALG selects; past CHECK there always is one (R135, R160;
notes/assumptions/4.md). -/
def withHash (s : State) (k : HashAlg → State) : Result :=
  match selectHash s.alg with
  | none => .fault .selector
  | some a => .next (k a)

/-- CHECK: the error commit, or on to MFSEL (R135). -/
def phaseCheck (s : State) : Result :=
  if checkErrors s.scratch.op s = .noError then .next { s with phase := .mfsel }
  else .next (s.errorCommit (checkErrors s.scratch.op s))

/-- MFSEL: `s_mf` is CTR or the time step (R136). -/
def phaseMfsel (s : State) : Result :=
  match s.movingFactor s.scratch.op with
  | none => .fault .timeStep
  | some mf => .next { s with scratch := { s.scratch with mf := mf }, phase := .encode }

/-- ENCODE: `s_msg <- Enc64(s_mf)` (R137). -/
def phaseEncode (s : State) : Result :=
  .next { s with scratch := { s.scratch with msg := padTo 8 (enc64 s.scratch.mf) }, phase := .keyprep }

/-- KEYPREP: `s_k0 <- K0(ALG, KEY[0..KEYLEN−1]) ‖ zero(128 − B)` (R138). -/
def phaseKeyprep (s : State) : Result :=
  withHash s fun a =>
    { s with scratch := { s.scratch with k0 := padTo 128 (keyBlock a s.secret) }, phase := .inner }

/-- INNER: `s_inner <- InnerHash(ALG, s_k0[0..B−1], s_msg) ‖ zero(64 − L)` (R139). -/
def phaseInner (s : State) : Result :=
  withHash s fun a =>
    { s with
      scratch :=
        { s.scratch with
          inner := padTo 64 (innerHash a (s.scratch.k0.toList.take (blockSize a)) s.scratch.msg.toList) }
      phase := .outer }

/-- OUTER: `s_mac <- OuterHash(ALG, s_k0[0..B−1], s_inner[0..L−1]) ‖ zero(64 − L)` (R140). -/
def phaseOuter (s : State) : Result :=
  withHash s fun a =>
    { s with
      scratch :=
        { s.scratch with
          mac := padTo 64
            (outerHash a (s.scratch.k0.toList.take (blockSize a)) (s.scratch.inner.toList.take (macLength a))) }
      phase := .trunc }

/-- TRUNC: `(s_off, s_p) <- Trunc(s_mac[0..L−1])` (R141). -/
def phaseTrunc (s : State) : Result :=
  withHash s fun a =>
    { s with
      scratch :=
        { s.scratch with
          off := (trunc (s.scratch.mac.toList.take (macLength a))).1
          p := (trunc (s.scratch.mac.toList.take (macLength a))).2 }
      phase := .reduce }

/-- REDUCE: `s_code <- Reduce(s_p, DIGITS)` (R142). -/
def phaseReduce (s : State) : Result :=
  match reduceCode s.scratch.p s.digits.toNat with
  | none => .fault .powerIndex
  | some c => .next { s with scratch := { s.scratch with code := c }, phase := .format }

/-- FORMAT: `s_str <- Format(s_code, DIGITS) ‖ zero(8 − DIGITS)` (R142). -/
def phaseFormat (s : State) : Result :=
  match formatCode s.scratch.code s.digits.toNat with
  | none => .fault .powerIndex
  | some str => .next { s with scratch := { s.scratch with str := padTo 8 str }, phase := .commit }

/-- `MACi = val(macpad[4i..4i+3])`, i = 0 to 15 (R43). -/
def macWords (mac : List Byte) : Vector Word 16 := ⟨((List.range 16).map (wordAt mac)).toArray, by simp⟩

/-- The result registers as COMMIT writes them from scratch (R143). -/
def committedResults (a : HashAlg) (s : State) : Results :=
  { mfLo := s.scratch.mf.extractLsb' 0 32
    mfHi := s.scratch.mf.extractLsb' 32 32
    offset := s.scratch.off
    trunc := s.scratch.p
    code := s.scratch.code
    strlen := s.digits.setWidth 4
    str0 := wordAt s.scratch.str.toList 0
    str1 := wordAt s.scratch.str.toList 1
    maclen := BitVec.ofNat 7 (macLength a)
    mac := macWords s.scratch.mac.toList }

/-- COMMIT: the result commit, all results in one step (R143). -/
def phaseCommit (s : State) : Result :=
  withHash s fun a =>
    { s.clearScratch with results := committedResults a s, done := true, busy := false, phase := .idle }

/-- The Core step (R134): the function of the current PHASE, taken exactly when BUSY = 1. With BUSY = 0, and in IDLE,
which "the Core has no step" for (R36), nothing changes. -/
def coreStep (s : State) : Result :=
  if s.busy then
    match s.phase with
    | .idle => .next s
    | .check => phaseCheck s
    | .mfsel => phaseMfsel s
    | .encode => phaseEncode s
    | .keyprep => phaseKeyprep s
    | .inner => phaseInner s
    | .outer => phaseOuter s
    | .trunc => phaseTrunc s
    | .reduce => phaseReduce s
    | .format => phaseFormat s
    | .commit => phaseCommit s
  else .next s

end Sys2Proof.Machine
end

