-- ==== Sys2Proof/Machine/Window.lean ====
section
/-! DEFINITION. The register window (10_state.md R21): which register stands at which offset, what a read returns
(20_memory.md R72), and what a write to an operand register or IEN does (R73). -/

namespace Sys2Proof.Machine

/-- The registers of the window, in the order of R21. -/
inductive Reg where
  | id
  | cmd
  | status
  | errcode
  | ien
  | alg
  | digits
  | keylen
  | ctrLo
  | ctrHi
  | nowLo
  | nowHi
  | t0Lo
  | t0Hi
  | stepLo
  | stepHi
  | mfLo
  | mfHi
  | offset
  | trunc
  | code
  | strlen
  | str0
  | str1
  | maclen
  /-- MAC0 to MAC15. -/
  | mac (i : Fin 16)
  deriving DecidableEq, Repr

/-- The word index of a register, its byte offset divided by 4 (R21). -/
def regIndex : Reg → Fin 64
  | .id => 0
  | .cmd => 1
  | .status => 2
  | .errcode => 3
  | .ien => 4
  | .alg => 5
  | .digits => 6
  | .keylen => 7
  | .ctrLo => 8
  | .ctrHi => 9
  | .nowLo => 10
  | .nowHi => 11
  | .t0Lo => 12
  | .t0Hi => 13
  | .stepLo => 14
  | .stepHi => 15
  | .mfLo => 16
  | .mfHi => 17
  | .offset => 18
  | .trunc => 19
  | .code => 20
  | .strlen => 21
  | .str0 => 22
  | .str1 => 23
  | .maclen => 24
  | .mac i => ⟨32 + i.val, by omega⟩

/-- The register at a word index; none at the reserved offsets 0x64 to 0x7C and 0xC0 to 0xFC (R21, R50). -/
def regAt (i : Fin 64) : Option Reg :=
  match i.val with
  | 0 => some .id
  | 1 => some .cmd
  | 2 => some .status
  | 3 => some .errcode
  | 4 => some .ien
  | 5 => some .alg
  | 6 => some .digits
  | 7 => some .keylen
  | 8 => some .ctrLo
  | 9 => some .ctrHi
  | 10 => some .nowLo
  | 11 => some .nowHi
  | 12 => some .t0Lo
  | 13 => some .t0Hi
  | 14 => some .stepLo
  | 15 => some .stepHi
  | 16 => some .mfLo
  | 17 => some .mfHi
  | 18 => some .offset
  | 19 => some .trunc
  | 20 => some .code
  | 21 => some .strlen
  | 22 => some .str0
  | 23 => some .str1
  | 24 => some .maclen
  | n => if 32 ≤ n ∧ n < 48 then some (.mac (Fin.ofNat 16 (n - 32))) else none

/-- The identification word, ASCII "OTP1" (R2, R30). -/
def idWord : Word := 0x4F545031

/-- What a register reads as, reserved high bits as 0 (R72, R50). CMD is write-only (R31). -/
def State.readReg (s : State) : Reg → Word
  | .id => idWord
  | .cmd => 0
  | .status => s.statusWord
  | .errcode => BitVec.ofNat 32 (errNumber s.errcode)
  | .ien => s.ien.setWidth 32
  | .alg => s.alg
  | .digits => s.digits
  | .keylen => s.keylen
  | .ctrLo => s.ctrLo
  | .ctrHi => s.ctrHi
  | .nowLo => s.nowLo
  | .nowHi => s.nowHi
  | .t0Lo => s.t0Lo
  | .t0Hi => s.t0Hi
  | .stepLo => s.stepLo
  | .stepHi => s.stepHi
  | .mfLo => s.results.mfLo
  | .mfHi => s.results.mfHi
  | .offset => s.results.offset.setWidth 32
  | .trunc => s.results.trunc.setWidth 32
  | .code => s.results.code.setWidth 32
  | .strlen => s.results.strlen.setWidth 32
  | .str0 => s.results.str0
  | .str1 => s.results.str1
  | .maclen => s.results.maclen.setWidth 32
  | .mac i => s.results.mac[i]

/-- `RegRead(4·i)` (R72): a function of the state that changes nothing; reserved offsets read 0. -/
def regRead (i : Fin 64) (s : State) : Word :=
  match regAt i with
  | some r => s.readReg r
  | none => 0

/-- A register word stored into its operand register, the other half of a pair untouched (R73); registers the Host
cannot store into are left alone. -/
def State.storeOperand (r : Reg) (v : Word) (s : State) : State :=
  match r with
  | .alg => { s with alg := v }
  | .digits => { s with digits := v }
  | .ctrLo => { s with ctrLo := v }
  | .ctrHi => { s with ctrHi := v }
  | .nowLo => { s with nowLo := v }
  | .nowHi => { s with nowHi := v }
  | .t0Lo => { s with t0Lo := v }
  | .t0Hi => { s with t0Hi := v }
  | .stepLo => { s with stepLo := v }
  | .stepHi => { s with stepHi := v }
  | _ => s

/-- The operand registers: the RW* rows of R21. -/
def isOperand : Reg → Bool
  | .alg | .digits | .ctrLo | .ctrHi | .nowLo | .nowHi | .t0Lo | .t0Hi | .stepLo | .stepHi => true
  | _ => false

/-- A write to IEN stores bits 1:0 of the word, at any time (R40, R73). -/
def State.storeIen (v : Word) (s : State) : State := { s with ien := v.setWidth 2 }

/-- How the bus interface answers an access inside the window (R77). -/
inductive BusAnswer where
  /-- The access is a transaction of the block: the event it is (R70). -/
  | transaction (e : Event)
  /-- The access is no transaction of the block: the interface answers it alone, with the bus's error response if BUS has
  one; `data` is the word a read returns. -/
  | rejected (data : Option Word)
  deriving DecidableEq, Repr

/-- "The only access width is 32 bits, at an offset that is a multiple of 4" (R77). -/
def isTransaction (offset width : Nat) : Bool := decide (width = 32 ∧ offset % 4 = 0)

/-- A read at a byte offset: inside the window a RegRead if it is a transaction, and otherwise rejected, returning 0 (R77);
outside the 256 bytes the block does not respond (R80). -/
def busRead (offset width : Nat) : Option BusAnswer :=
  if h : offset < 256 then
    some (if isTransaction offset width then .transaction (.regRead ⟨offset / 4, by omega⟩) else .rejected (some 0))
  else none

/-- A write at a byte offset: inside the window a RegWrite if it is a transaction, and otherwise rejected (R77, R80). -/
def busWrite (offset width : Nat) (v : Word) : Option BusAnswer :=
  if h : offset < 256 then
    some (if isTransaction offset width then .transaction (.regWrite ⟨offset / 4, by omega⟩ v) else .rejected none)
  else none

/-- What an access adds to an execution: its event if it is a transaction, at the end of what is to come; a rejected access
is no event and changes no state (R77), and neither does one outside the window (R80). -/
def State.access (a : Option BusAnswer) (s : State) : State :=
  match a with
  | some (.transaction e) => { s with pending := s.pending ++ [e] }
  | some (.rejected _) => s
  | none => s

end Sys2Proof.Machine
end

