-- ==== Sys2Proof/Machine/Events.lean ====
section
/-! DEFINITION. What each event of an execution does (20_memory.md R85): command execution (30_encoding.md R100), host
writes (R73), host reads (R72), the Core step and Reset. -/

namespace Sys2Proof.Machine

/-- An illegal word written to CMD: IllegalCommand while idle (R252), dropped while busy (R105). -/
def execIllegal (s : State) : Result := whenIdle s (.next s.illegalCommand)

/-- `ExecCommand(w)` (R100). Every meaning checks BUSY itself, so that decoding first gives what R100 gives, which looks
at BUSY first (notes/assumptions/14.md). -/
def execCommand (w : Word) (s : State) : Result :=
  match decode w with
  | .ok i => exec i s
  | .error _ => execIllegal s

/-- `RegWrite(4·i, v)` (R73): CMD executes the word, IEN is stored at any time, an operand register only while idle, and
read-only registers and reserved offsets ignore the write. -/
def regWrite (i : Fin 64) (v : Word) (s : State) : Result :=
  match regAt i with
  | some .cmd => execCommand v s
  | some .ien => .next (s.storeIen v)
  | some r => if isOperand r then whenIdle s (.next (s.storeOperand r v)) else .next s
  | none => .next s

/-- WAIT (R109): a read of STATUS; while it shows BUSY = 1 the Core takes a step and the read is repeated
(notes/assumptions/9.md). -/
def waitPoll (s : State) : Result :=
  if s.busy then .next { s.reply s.statusWord with pending := .core :: .wait :: s.pending }
  else .next (s.reply s.statusWord)

/-- One event, in the state from whose `pending` it has been taken (R85). -/
def runEvent (e : Event) (s : State) : Result :=
  match e with
  | .regRead i => .next (s.reply (regRead i s))
  | .regWrite i v => regWrite i v s
  | .core => coreStep s
  | .reset => .next s.hardReset
  | .wait => waitPoll s

/-- A state with its next event taken out of `pending`. -/
def State.withPending (es : List Event) (s : State) : State := { s with pending := es }

/-- What happens next: the first pending event, or, when there is none, the Core's step, which weak fairness says comes
(R144); an idle Core changes nothing. -/
def nextStep (s : State) : Result :=
  match s.pending with
  | e :: rest => runEvent e (s.withPending rest)
  | [] => coreStep s

/-- The state whose next event is the write of one word to CMD. -/
def State.withCommand (w : Word) (s : State) : State := { s with pending := .regWrite (regIndex .cmd) w :: s.pending }

end Sys2Proof.Machine
end

