-- ==== Sys2Proof/Machine/Step.lean ====
section
/-! DEFINITION. One step of the machine, and placing a command where the next step takes it. -/

namespace Sys2Proof.Machine

/-- One step: one event of the execution (20_memory.md R85). -/
def step (s : State) : Host.Outcome State Fault Refusal := nextStep s

/-- The state in which the next step runs the command of bits w: its word is the next event, a RegWrite to CMD, since
"there is no instruction memory and no fetch" (R88; notes/assumptions/12.md). -/
def State.withFetchWord (s : State) (nbits w : Nat) : State := s.withCommand (BitVec.ofNat 32 (w % 2 ^ nbits))

end Sys2Proof.Machine
end

