-- ==== Sys2Proof/Machine/Script.lean ====
section
/-! DEFINITION. The host-script notation (30_encoding.md R108, R109): a way of writing sequences of transactions down. -/

namespace Sys2Proof.Machine

/-- The 64-bit operands that SET64 writes (R109). -/
inductive Pair where
  | ctr
  | now
  | t0
  | step
  deriving DecidableEq, Repr

/-- The low and the high register of a pair (R21). -/
def pairRegs : Pair → Reg × Reg
  | .ctr => (.ctrLo, .ctrHi)
  | .now => (.nowLo, .nowHi)
  | .t0 => (.t0Lo, .t0Hi)
  | .step => (.stepLo, .stepHi)

/-- The statements of R108 and the pseudo-instructions of R109. -/
inductive Stmt where
  /-- `WR <reg>, <v>`. -/
  | wr (r : Reg) (v : Word)
  /-- `RD <reg>`. -/
  | rd (r : Reg)
  /-- NOP, KEYCLR, KEYB, GENH, GENT, ACK, SRST. -/
  | cmd (i : Instr)
  /-- `CMDW <v>`. -/
  | cmdw (v : Word)
  /-- `SET64 <R>, <v>`. -/
  | set64 (p : Pair) (v : DWord)
  /-- `LDKEY <bytes>`. -/
  | ldkey (bytes : List Byte)
  /-- `WAIT`. -/
  | wait
  /-- `HOTP <alg>, <digits>, <ctr>`. -/
  | hotp (alg digits : Word) (ctr : DWord)
  /-- `TOTP <alg>, <digits>, <now>, <t0>, <step>`. -/
  | totp (alg digits : Word) (now t0 step : DWord)
  deriving DecidableEq, Repr

/-- `RegWrite(offset(reg), v)`. -/
def writeTo (r : Reg) (v : Word) : Event := .regWrite (regIndex r) v

/-- The transaction of a command (R108). -/
def command (i : Instr) : Event := writeTo .cmd (encode i)

/-- `WR <R>_LO, v[31:0]` then `WR <R>_HI, v[63:32]` (R109). -/
def set64 (p : Pair) (v : DWord) : List Event :=
  [writeTo (pairRegs p).1 (v.extractLsb' 0 32), writeTo (pairRegs p).2 (v.extractLsb' 32 32)]

/-- `KEYCLR` then one `KEYB` per byte, in order (R109). -/
def loadKey (bytes : List Byte) : List Event := command .keyclr :: bytes.map fun b => command (.keyb b)

/-- The transactions a statement stands for (R108, R109). -/
def expand : Stmt → List Event
  | .wr r v => [writeTo r v]
  | .rd r => [.regRead (regIndex r)]
  | .cmd i => [command i]
  | .cmdw v => [writeTo .cmd v]
  | .set64 p v => set64 p v
  | .ldkey bytes => loadKey bytes
  | .wait => [.wait]
  | .hotp alg digits ctr =>
    [writeTo .alg alg, writeTo .digits digits] ++ set64 .ctr ctr ++ [command .genh, .wait]
  | .totp alg digits now t0 step =>
    [writeTo .alg alg, writeTo .digits digits] ++ set64 .now now ++ set64 .t0 t0 ++ set64 .step step ++
      [command .gent, .wait]

/-- The transactions of a script, one statement after another. -/
def script (p : List Stmt) : List Event := p.flatMap expand

end Sys2Proof.Machine
end

