-- ==== Sys2Proof/Machine/BigStep.lean ====
section
/-! DEFINITION. The big-step function (41_generate_commands.md R145): the source's `generate` from arguments to result
registers, without phases or scratch. The sequencer is proved to compute it. -/

namespace Sys2Proof.Machine

/-- `generate(secret, movingFactor, digits, hash)`: steps 1 to 7 in order, as the result registers show them (R145). None
where Reduce or Format is not defined (digits > 8). -/
def generate (a : HashAlg) (secret : List Byte) (mf : DWord) (digits : Nat) : Option Results :=
  let mac := hmac a secret (enc64 mf)
  let p := truncValue mac (truncOffset mac).toNat
  (reduceCode p digits).bind fun code =>
    (formatCode code digits).map fun str =>
      { mfLo := mf.extractLsb' 0 32
        mfHi := mf.extractLsb' 32 32
        offset := truncOffset mac
        trunc := p
        code := code
        strlen := BitVec.ofNat 4 digits
        str0 := wordAt (str ++ zeros (8 - digits)) 0
        str1 := wordAt (str ++ zeros (8 - digits)) 1
        maclen := BitVec.ofNat 7 (macLength a)
        mac := macWords (mac ++ zeros (64 - macLength a)) }

/-- The results of a GENH or GENT on the operands and the key of a state; none where CHECK would have stopped it. -/
def bigStepResults (op : GenOp) (s : State) : Option Results :=
  (selectHash s.alg).bind fun a => (s.movingFactor op).bind fun mf => generate a s.secret mf s.digits.toNat

/-- The state when BUSY falls again after a GENH or GENT accepted in s: the results, or the error, and nothing else
changed (R145). Where CHECK passes there are results, so the default is never used. -/
def bigStep (op : GenOp) (s : State) : State :=
  if checkErrors op s = .noError then
    { s.clearOutcome.clearScratch with
      results := (bigStepResults op s).getD Results.zero, done := true, busy := false, phase := .idle }
  else
    { s.clearOutcome.clearScratch with
      err := true, errcode := checkErrors op s, busy := false, phase := .idle }

/-- n Core steps, one after another, with no other event between. -/
def coreRun : Nat → State → Result
  | 0, s => .next s
  | n + 1, s =>
    match coreStep s with
    | .next t => coreRun n t
    | .fault f => .fault f
    | .refused r => .refused r

end Sys2Proof.Machine
end

