-- ==== Sys2Proof/Safety.lean ====
section
/-! DEFINITION. What claims are said in terms of: the invariants of a good state (10_state.md R51), an operation that is on
course (R61, R145), what two states have in common, and the end of a run (70_reset_and_hazards.md R287). -/

namespace Sys2Proof.Machine

/-- The two states hold the same operand registers (R23 to R28). -/
structure SameOperands (s t : State) : Prop where
  alg : t.alg = s.alg
  digits : t.digits = s.digits
  ctrLo : t.ctrLo = s.ctrLo
  ctrHi : t.ctrHi = s.ctrHi
  nowLo : t.nowLo = s.nowLo
  nowHi : t.nowHi = s.nowHi
  t0Lo : t.t0Lo = s.t0Lo
  t0Hi : t.t0Hi = s.t0Hi
  stepLo : t.stepLo = s.stepLo
  stepHi : t.stepHi = s.stepHi

/-- The two states hold the same key, its length and its overflow flag (R38, R41, R53). -/
structure SameKey (s t : State) : Prop where
  key : t.key = s.key
  keylen : t.keylen = s.keylen
  keyovf : t.keyovf = s.keyovf

/-- The two states have the same outcome on show and the same operation in flight: flags, error code, phase, results and
scratch (R33 to R36, R39, R42, R55). -/
structure SameOperation (s t : State) : Prop where
  busy : t.busy = s.busy
  done : t.done = s.done
  err : t.err = s.err
  phase : t.phase = s.phase
  errcode : t.errcode = s.errcode
  results : t.results = s.results
  scratch : t.scratch = s.scratch

/-- The Host's side of the interface is the same. -/
structure SameHostSide (s t : State) : Prop where
  pending : t.pending = s.pending
  replies : t.replies = s.replies

/-- The invariants of R51 that speak of one state (items 1 to 4, 6 and 7), the key memory's form, and what CHECK has
established for the phases after it (R135). -/
structure GoodState (s : State) : Prop where
  /-- R51 item 1. -/
  busy_iff : s.busy = true ↔ s.phase ≠ .idle
  /-- R51 item 2. -/
  err_iff : s.err = true ↔ s.errcode ≠ .noError
  /-- R51 item 3. -/
  busy_not_done : s.busy = true → s.done = false
  /-- R51 item 3. -/
  busy_not_err : s.busy = true → s.err = false
  /-- R51 item 3. -/
  done_not_err : s.done = true → s.err = false
  /-- R51 item 4. -/
  results_zero : s.done = false → s.results = Results.zero
  /-- R51 item 6. -/
  scratch_zero : s.busy = false → s.scratch = Scratch.zero
  /-- R51 item 7. -/
  keylen_le : s.keylen.toNat ≤ Config.keyMax
  /-- R51 item 7. -/
  keyovf_full : s.keyovf = true → s.keylen.toNat = Config.keyMax
  /-- The key memory is in canonical form. -/
  key_wf : s.key.wf = true
  /-- Bytes at and above KEYLEN hold 0x00 (R53, R121). -/
  key_below : ∀ c ∈ s.key, c.1 < s.keylen.toNat
  /-- After CHECK the operands are valid (R135). -/
  checked : s.busy = true → s.phase ≠ .check → checkErrors s.scratch.op s = .noError

/-- The operation in flight is on course: the Core steps still to come, taken alone, lead to the big-step outcome of the
operands and the key as they stand (R61, R145; R51 item 5 at the commit). -/
def OnCourse (s : State) : Prop := s.busy = true → coreRun 10 s = .next (bigStep s.scratch.op s)

/-- The end of a run: the last transaction has been performed and BUSY = 0 (R287). -/
def finished (s : State) : Bool := s.pending.isEmpty && !s.busy

/-- A word written to CMD next, if the next event is one. -/
def nextCommand (s : State) : Option Word :=
  match s.pending with
  | .regWrite i w :: _ => if i = regIndex .cmd then some w else none
  | _ => none

/-- The transition table's "always" rows: where PHASE goes from each phase after CHECK (R133). -/
def nextPhase : Phase → Phase
  | .idle => .idle
  | .check => .mfsel
  | .mfsel => .encode
  | .encode => .keyprep
  | .keyprep => .inner
  | .inner => .outer
  | .outer => .trunc
  | .trunc => .reduce
  | .reduce => .format
  | .format => .commit
  | .commit => .idle

/-- The registers that show results (R42). -/
def isResult : Reg → Bool
  | .mfLo | .mfHi | .offset | .trunc | .code | .strlen | .str0 | .str1 | .maclen | .mac _ => true
  | _ => false

/-- The number that a string of ASCII digits stands for (R215). -/
def decimalValue (str : List Byte) : Nat := str.foldl (fun n b => 10 * n + (b.toNat - 0x30)) 0

end Sys2Proof.Machine
end

