-- ==== Sys2Proof/Certificates/Slice0/Obligations.lean ====
section
/-! DEFINITION. What is claimed of the machine, each from the numbered rules of spec/. -/

open Sys2Proof Sys2Proof.Machine

/-! ### Encoding (30_encoding.md) -/

/-- Decoding and encoding agree both ways: a word decodes to an instruction exactly when it is that instruction's word,
so no bit of a legal word is dropped and no other word is taken for it (R101, R102, R103, R105). -/
def Obligations.DecodeInvertsEncode : Prop :=
  ∀ (w : Word) (i : Instr), decode w = .ok i ↔ w = encode i

/-- R103: `Decode(w)` answers the row whose masked bits match; the rows are disjoint; where no row matches it answers
Illegal; the operand of KEYB is `w[15:8]`. -/
def Obligations.DecodeFollowsOpcodeTable : Prop :=
  (∀ (w : Word) (i : Instr), decode w = .ok i → rowOf i ∈ opcodeTable ∧ rowMatches (rowOf i) w = true) ∧
  (∀ (w : Word) (b : Byte), decode w = .ok (.keyb b) → b = w.extractLsb' 8 8) ∧
  (∀ w : Word, ∀ r ∈ opcodeTable, ∀ q ∈ opcodeTable, rowMatches r w = true → rowMatches q w = true → r = q) ∧
  (∀ w : Word, (∃ e, decode w = .error e) ↔ ∀ r ∈ opcodeTable, rowMatches r w = false)

/-- The decoder takes exactly the words that the formats allow: an assigned opcode and zero reserved bits (R101, R105). -/
def Obligations.LegalWordsAreThoseDecoded : Prop :=
  ∀ w : Word, (∃ i, decode w = .ok i) ↔ wordWellFormed w = true

/-- The encodings worked out in R103 and the illegal words named in R105. -/
def Obligations.WorkedEncodings : Prop :=
  decode 0x00003102 = .ok (.keyb 0x31) ∧ decode 0x00000003 = .ok .genh ∧ decode 0x00000002 = .ok (.keyb 0x00) ∧
  decode 0x0000FF02 = .ok (.keyb 0xFF) ∧ decode 0x00000006 = .ok .srst ∧
  decode 0x00000100 = .error .formatNBits ∧ decode 0x80000003 = .error .formatNBits ∧
  decode 0x00013102 = .error .formatBBits ∧ decode 0x00000007 = .error .reservedOpcode

/-! ### One step -/

/-- A step whose next event writes a legal word to CMD is `exec` of the decoded instruction, at the state from which that
event has been taken; and so it is for a word placed by `withFetchWord`, at the state itself (R88, R100). -/
def Obligations.StepRunsDecodedCommand : Prop :=
  (∀ (s : State) (w : Word) (i : Instr) (rest : List Event), decode w = .ok i →
    s.pending = .regWrite (regIndex .cmd) w :: rest → step s = exec i { s with pending := rest }) ∧
  (∀ (s : State) (w : Word) (i : Instr), decode w = .ok i → step (s.withFetchWord 32 w.toNat) = exec i s)

/-- What each event does in a step: a read, a register write, Reset, a Core step and a WAIT (R72, R73, R85, R109, R134,
R280). That a WAIT lets the Core take one step between two polls is the model's choice (DESIGN CHOICE,
notes/assumptions/9.md), and so is that with nothing pending the Core steps (DESIGN CHOICE, notes/assumptions/1.md); with
BUSY = 0 as well nothing changes. -/
def Obligations.StepRunsEachEvent : Prop :=
  ∀ (s : State) (rest : List Event),
    (∀ i, s.pending = .regRead i :: rest →
      step s = .next { s with pending := rest, replies := regRead i s :: s.replies }) ∧
    (∀ i v, s.pending = .regWrite i v :: rest → step s = regWrite i v { s with pending := rest }) ∧
    (s.pending = .reset :: rest → step s = .next { State.reset with pending := rest, replies := s.replies }) ∧
    (s.pending = .core :: rest → step s = coreStep { s with pending := rest }) ∧
    (s.pending = .wait :: rest →
      step s = .next { s with
        pending := if s.busy then .core :: .wait :: rest else rest
        replies := regRead (regIndex .status) s :: s.replies }) ∧
    (s.pending = [] → step s = coreStep s) ∧
    (s.pending = [] → s.busy = false → step s = .next s)

/-- R290: while BUSY = 1 a write to an operand register and a word other than SRST written to CMD change nothing except
WRDROP; IEN is written; read-only and reserved offsets ignore the write; all reads are performed. -/
def Obligations.BusyWritesAreDropped : Prop :=
  ∀ s : State, s.busy = true →
    (∀ i r v, regAt i = some r → isOperand r = true → regWrite i v s = .next { s with wrdrop := true }) ∧
    (∀ w : Word, w ≠ 0x00000006 → regWrite (regIndex .cmd) w s = .next { s with wrdrop := true }) ∧
    regWrite (regIndex .cmd) 0x00000006 s = exec .srst s ∧
    (∀ v : Word, regWrite (regIndex .ien) v s = .next { s with ien := v.extractLsb' 0 2 }) ∧
    (∀ i r v, regAt i = some r → isOperand r = false → r ≠ .cmd → r ≠ .ien → regWrite i v s = .next s) ∧
    (∀ i v, regAt i = none → regWrite i v s = .next s) ∧
    (∀ i, runEvent (.regRead i) s = .next { s with replies := regRead i s :: s.replies })

/-- R252: an illegal word written to CMD while idle sets ERR and ERRCODE, which then reads 7, clears DONE and the results,
and changes nothing else. -/
def Obligations.IllegalWordWhileIdle : Prop :=
  ∀ (s : State) (w : Word) (e : IllegalWord), s.busy = false → decode w = .error e →
    ∃ t, regWrite (regIndex .cmd) w s = .next t ∧
      t = { s with err := true, errcode := .illegalCommand, done := false, results := Results.zero } ∧
      regRead (regIndex .errcode) t = 7

/-! ### Key commands (40_key_commands.md) -/

/-- R120: NOP changes nothing while idle; while busy it is dropped and sets WRDROP. -/
def Obligations.NopChangesNothing : Prop :=
  ∀ s : State, (s.busy = false → exec .nop s = .next s) ∧
    (s.busy = true → exec .nop s = .next { s with wrdrop := true })

/-- R121: KEYCLR while idle sets KEYLEN and KEYOVF to 0 and empties the key memory, every stored byte of which then reads
0x00, and changes nothing else. -/
def Obligations.KeyclrEmptiesKey : Prop :=
  ∀ s : State, s.busy = false →
    ∃ t, exec .keyclr s = .next t ∧ t = { s with keylen := 0, key := [], keyovf := false } ∧
      t.secret = [] ∧ ∀ a, a < s.keylen.toNat → t.key.read a = 0

/-- R122, the three cases of KEYB while idle: after an overflow nothing changes; with KEYLEN = KEY_MAX only KEYOVF is set;
with room the byte is stored at address KEYLEN and KEYLEN grows by one: the secret is the old one with the byte after it,
every other byte of the key memory reads as before, and nothing else changes. The key memory's canonical form is an
invariant (Obligations.StepKeepsGoodState). -/
def Obligations.KeybAppendsOrOverflows : Prop :=
  ∀ (s : State) (b : Byte), s.busy = false →
    (s.keyovf = true → exec (.keyb b) s = .next s) ∧
    (s.keyovf = false → s.keylen.toNat = Config.keyMax → exec (.keyb b) s = .next { s with keyovf := true }) ∧
    (s.keyovf = false → s.keylen.toNat < Config.keyMax → s.key.wf = true →
      ∃ t, exec (.keyb b) s = .next t ∧ t = { s with key := t.key, keylen := t.keylen } ∧
        t.keylen.toNat = s.keylen.toNat + 1 ∧ t.secret = s.secret ++ [b] ∧ t.key.wf = true ∧
        t.key.read s.keylen.toNat = b ∧ ∀ a, a ≠ s.keylen.toNat → t.key.read a = s.key.read a)

/-- R124, the loading law: KEYCLR and n KEYB, written by the Host one after another from an idle state, leave exactly the n
bytes in the key memory if they fit, and the first KEY_MAX of them with KEYOVF set if not. Without the KEYCLR the bytes,
again as many as fit, are appended to what the key memory held, and KEYOVF says whether all did; after an overflow none
is. Nothing but the key changes. -/
def Obligations.LoadingLaw : Prop :=
  (∀ (s : State) (bytes : List Byte) (rest : List Event), s.busy = false → s.pending = loadKey bytes ++ rest →
    ∃ t : State, Host.Core.run core (bytes.length + 1) s = .next t ∧
      t = { s with key := t.key, keylen := t.keylen, keyovf := t.keyovf, pending := rest } ∧
      t.secret = bytes.take Config.keyMax ∧ t.keylen.toNat = min bytes.length Config.keyMax ∧
      (t.keyovf = true ↔ Config.keyMax < bytes.length)) ∧
  (∀ (s : State) (bytes : List Byte) (rest : List Event), s.busy = false → s.key.wf = true →
    s.keylen.toNat ≤ Config.keyMax → s.pending = bytes.map (fun b => command (.keyb b)) ++ rest →
    ∃ t : State, Host.Core.run core bytes.length s = .next t ∧
      t = { s with key := t.key, keylen := t.keylen, keyovf := t.keyovf, pending := rest } ∧
      (s.keyovf = true → t = { s with pending := rest }) ∧
      (s.keyovf = false →
        t.secret = s.secret ++ bytes.take (Config.keyMax - s.keylen.toNat) ∧
        t.keylen.toNat = min (s.keylen.toNat + bytes.length) Config.keyMax ∧
        (t.keyovf = true ↔ Config.keyMax < s.keylen.toNat + bytes.length)))

/-! ### Generate commands and the sequencer (41_generate_commands.md) -/

/-- R132: GENH and GENT, accepted while idle, clear the old outcome and the results, set s_op, BUSY and PHASE, and change
nothing else. -/
def Obligations.GenerateIsAccepted : Prop :=
  ∀ s : State, s.busy = false →
    exec .genh s = .next { s with
      done := false, err := false, errcode := .noError, results := Results.zero,
      scratch := { s.scratch with op := .genh }, busy := true, phase := .check } ∧
    exec .gent s = .next { s with
      done := false, err := false, errcode := .noError, results := Results.zero,
      scratch := { s.scratch with op := .gent }, busy := true, phase := .check }

/-- R100: while BUSY = 1 every command but SRST is dropped: nothing but WRDROP changes. -/
def Obligations.BusyCommandsAreDropped : Prop :=
  ∀ (s : State) (i : Instr), s.busy = true → i ≠ .srst → exec i s = .next { s with wrdrop := true }

/-- R133, the transition table: GENH and GENT written while idle take PHASE to CHECK; from CHECK the Core goes to IDLE on an
error and to MFSEL otherwise, from every later phase to the next, from COMMIT to IDLE; no other event changes PHASE
except SRST and Reset, which set it to 0. -/
def Obligations.PhaseTransitions : Prop :=
  (∀ s : State, s.busy = false →
    (∃ t, exec .genh s = .next t ∧ t.phase = .check) ∧ (∃ t, exec .gent s = .next t ∧ t.phase = .check) ∧
    coreStep s = .next s) ∧
  (∀ s t : State, s.busy = true → coreStep s = .next t →
    t.phase = if s.phase = .check ∧ checkErrors s.scratch.op s ≠ .noError then .idle else nextPhase s.phase) ∧
  (∀ (s t : State) (e : Event), e ≠ .core → runEvent e s = .next t → t.phase ≠ s.phase →
    (e = .reset ∧ t.phase = .idle) ∨ (e = .regWrite (regIndex .cmd) (encode .srst) ∧ t.phase = .idle) ∨
    ((e = .regWrite (regIndex .cmd) (encode .genh) ∨ e = .regWrite (regIndex .cmd) (encode .gent)) ∧
      s.busy = false ∧ t.phase = .check))

/-- R250: which error CHECK reports, each exactly when its cause holds and no earlier one in the order does. -/
def Obligations.ErrorPriority : Prop :=
  ∀ (op : GenOp) (s : State),
    let d := s.digits.toNat < 1 ∨ 8 < s.digits.toNat
    let z := op = .gent ∧ s.stepSeconds.toNat = 0
    let n := op = .gent ∧ s.now.toNat < s.t0.toNat
    let h := 2 < s.alg.toNat
    (checkErrors op s = .invalidDigitCount ↔ d) ∧
    (checkErrors op s = .invalidStep ↔ ¬ d ∧ z) ∧
    (checkErrors op s = .invalidMovingFactor ↔ ¬ d ∧ ¬ z ∧ n) ∧
    (checkErrors op s = .unsupportedHash ↔ ¬ d ∧ ¬ z ∧ ¬ n ∧ h) ∧
    (checkErrors op s = .keyOverflow ↔ ¬ d ∧ ¬ z ∧ ¬ n ∧ ¬ h ∧ s.keyovf = true) ∧
    (checkErrors op s = .malformedSecret ↔ ¬ d ∧ ¬ z ∧ ¬ n ∧ ¬ h ∧ s.keyovf = false ∧ s.keylen.toNat = 0) ∧
    (checkErrors op s = .noError ↔ ¬ d ∧ ¬ z ∧ ¬ n ∧ ¬ h ∧ s.keyovf = false ∧ s.keylen.toNat ≠ 0)

/-- R135 and R251: CHECK finding an error commits it: ERR, ERRCODE, BUSY 0, PHASE 0, scratch 0, nothing else; ERRCODE then
reads the number that R250 returns for the first cause that holds. CHECK finding none goes to MFSEL and changes nothing
else. -/
def Obligations.CheckCommitsErrors : Prop :=
  ∀ s : State, s.busy = true → s.phase = .check →
    (checkErrors s.scratch.op s ≠ .noError →
      ∃ t, coreStep s = .next t ∧
        t = { s with
          err := true, errcode := checkErrors s.scratch.op s, busy := false, phase := .idle,
          scratch := Scratch.zero } ∧
        regRead (regIndex .errcode) t =
          if s.digits.toNat < 1 ∨ 8 < s.digits.toNat then 1
          else if s.scratch.op = .gent ∧ s.stepSeconds.toNat = 0 then 5
          else if s.scratch.op = .gent ∧ s.now.toNat < s.t0.toNat then 2
          else if 2 < s.alg.toNat then 3
          else if s.keyovf = true then 6
          else 4) ∧
    (checkErrors s.scratch.op s = .noError → coreStep s = .next { s with phase := .mfsel })

/-- The number that ERRCODE reads as for each error, and 0 for none (R39, R241). -/
def Obligations.ErrorNumbers : Prop :=
  ∀ s : State,
    regRead (regIndex .errcode) { s with errcode := .noError } = 0 ∧
    regRead (regIndex .errcode) { s with errcode := .invalidDigitCount } = 1 ∧
    regRead (regIndex .errcode) { s with errcode := .invalidMovingFactor } = 2 ∧
    regRead (regIndex .errcode) { s with errcode := .unsupportedHash } = 3 ∧
    regRead (regIndex .errcode) { s with errcode := .malformedSecret } = 4 ∧
    regRead (regIndex .errcode) { s with errcode := .invalidStep } = 5 ∧
    regRead (regIndex .errcode) { s with errcode := .keyOverflow } = 6 ∧
    regRead (regIndex .errcode) { s with errcode := .illegalCommand } = 7

/-- R143, the result commit, as the Host reads it back: every result register shows its scratch value, byte strings packed
with the earlier byte in the more significant place (R43, R49); DONE 1, BUSY 0, PHASE 0, scratch 0, nothing else
changed. -/
def Obligations.ResultCommitShowsScratch : Prop :=
  ∀ (s : State) (a : HashAlg), s.busy = true → s.phase = .commit → selectHash s.alg = some a →
    1 ≤ s.digits.toNat → s.digits.toNat ≤ 8 →
    ∃ t, coreStep s = .next t ∧
      t = { s with results := t.results, done := true, busy := false, phase := .idle, scratch := Scratch.zero } ∧
      regRead (regIndex .mfLo) t = s.scratch.mf.extractLsb' 0 32 ∧
      regRead (regIndex .mfHi) t = s.scratch.mf.extractLsb' 32 32 ∧
      (regRead (regIndex .maclen) t).toNat = macLength a ∧
      (∀ i : Fin 16, regRead (regIndex (.mac i)) t =
        s.scratch.mac[4 * i.val] ++ s.scratch.mac[4 * i.val + 1] ++ s.scratch.mac[4 * i.val + 2] ++
          s.scratch.mac[4 * i.val + 3]) ∧
      (regRead (regIndex .offset) t).toNat = s.scratch.off.toNat ∧
      (regRead (regIndex .trunc) t).toNat = s.scratch.p.toNat ∧
      (regRead (regIndex .code) t).toNat = s.scratch.code.toNat ∧
      regRead (regIndex .strlen) t = s.digits ∧
      regRead (regIndex .str0) t =
        s.scratch.str[0] ++ s.scratch.str[1] ++ s.scratch.str[2] ++ s.scratch.str[3] ∧
      regRead (regIndex .str1) t =
        s.scratch.str[4] ++ s.scratch.str[5] ++ s.scratch.str[6] ++ s.scratch.str[7]

/-- R145, the big-step outcome: from the acceptance of a GENH or GENT in any state, ten Core steps leave the error that
CHECK finds or, where it finds none, the results of the source's seven steps on the operands and the key, and nothing
else changed. -/
def Obligations.SequencerComputesBigStep : Prop :=
  ∀ (op : GenOp) (s : State),
    coreRun 10 (s.accept op) = .next (bigStep op s) ∧
    (checkErrors op s = .noError → ∃ r, bigStepResults op s = some r)

/-- R144: an accepted GENH or GENT reaches BUSY = 0 after exactly 1 Core step if CHECK finds an error, and after exactly 10
if it finds none. -/
def Obligations.OperationTakesOneOrTenSteps : Prop :=
  ∀ (op : GenOp) (s : State),
    (checkErrors op s ≠ .noError → ∃ t, coreRun 1 (s.accept op) = .next t ∧ t.busy = false ∧ t.err = true) ∧
    (checkErrors op s = .noError →
      (∀ n < 10, ∃ t, coreRun n (s.accept op) = .next t ∧ t.busy = true) ∧
      ∃ t, coreRun 10 (s.accept op) = .next t ∧ t.busy = false ∧ t.done = true)

/-- R61: what an operation commits depends only on the operand registers, KEYLEN, KEYOVF and the bytes KEY[0..KEYLEN−1]
at the acceptance: not on earlier results, errors, flags, IEN or anything else. -/
def Obligations.OutcomeIsStateless : Prop :=
  ∀ (op : GenOp) (s u : State), SameOperands s u → u.keylen = s.keylen → u.keyovf = s.keyovf →
    (∀ a, a < s.keylen.toNat → u.key.read a = s.key.read a) →
    ∃ t v, coreRun 10 (s.accept op) = .next t ∧ coreRun 10 (u.accept op) = .next v ∧
      v.results = t.results ∧ v.done = t.done ∧ v.err = t.err ∧ v.errcode = t.errcode

/-- R225: where the time step is defined, a GENT commits exactly what a GENH with CTR equal to it commits, MF included. -/
def Obligations.GentAgreesWithGenh : Prop :=
  ∀ (s : State) (mf : DWord), timeStep s.now s.t0 s.stepSeconds = some mf →
    ∃ t v, coreRun 10 (s.accept .gent) = .next t ∧
      coreRun 10 (State.accept .genh { s with ctrLo := mf.extractLsb' 0 32, ctrHi := mf.extractLsb' 32 32 }) = .next v ∧
      v.results = t.results ∧ v.done = t.done ∧ v.err = t.err ∧ v.errcode = t.errcode

/-- R90 and R134: a Core step changes no register the Host can write and no key byte, only flags, results and scratch; with
BUSY = 0 it changes nothing. -/
def Obligations.CoreStepFrame : Prop :=
  (∀ s : State, s.busy = false → coreStep s = .next s) ∧
  (∀ s t : State, coreStep s = .next t → SameOperands s t ∧ SameKey s t ∧ SameHostSide s t ∧ t.ien = s.ien ∧
    t.wrdrop = s.wrdrop ∧ (∀ a, t.key.read a = s.key.read a))

/-! ### The units (42_encoder.md to 47_timestep.md) -/

/-- R150: the message has 8 bytes, byte i being `mf[63−8i : 56−8i]`; and it is the bytes of the high word followed by those
of the low word (R151). -/
def Obligations.EncoderIsBigEndian : Prop :=
  (∀ mf : DWord, (enc64 mf).length = 8 ∧
    ∀ i : Nat, i < 8 → (enc64 mf)[i]? = some (mf.extractLsb' (56 - 8 * i) 8)) ∧
  (∀ hi lo : Word, enc64 (hi ++ lo) = beBytes 4 hi.toNat ++ beBytes 4 lo.toNat)

/-- R172: the padding has the least number of zeros that makes a whole number of blocks, and the padded message is the
message, 0x80, those zeros and the length in bits. -/
def Obligations.PaddingIsLeast : Prop :=
  ∀ (m : List Byte) (B lb : Nat), 0 < B →
    ∃ z, (m.length + 1 + z + lb) % B = 0 ∧ (∀ y, y < z → (m.length + 1 + y + lb) % B ≠ 0) ∧
      shaPad m B lb = m ++ 0x80 :: (List.replicate z 0x00 ++ beBytes lb (8 * m.length))

/-- The selector of R160: which hash function, block size B and output size L each value of ALG chooses, and that it chooses
none for any other; every hash returns L bytes. -/
def Obligations.HashSelector : Prop :=
  selectHash 0 = some .sha1 ∧ selectHash 1 = some .sha256 ∧ selectHash 2 = some .sha512 ∧
  (∀ alg : Word, 2 < alg.toNat → selectHash alg = none) ∧
  blockSize .sha1 = 64 ∧ blockSize .sha256 = 64 ∧ blockSize .sha512 = 128 ∧
  macLength .sha1 = 20 ∧ macLength .sha256 = 32 ∧ macLength .sha512 = 64 ∧
  (∀ m, hashOf .sha1 m = sha1 m ∧ hashOf .sha256 m = sha256 m ∧ hashOf .sha512 m = sha512 m) ∧
  ∀ (a : HashAlg) (m : List Byte), (hashOf a m).length = macLength a

/-- The inner and the outer hash each compress exactly two blocks, whatever the key (R165), the blocks being those that each
hash function pads its message into and compresses in order (R172, R176, R182, R189). -/
def Obligations.HmacHashesTwoBlocks : Prop :=
  (∀ (a : HashAlg) (key msg inner : List Byte) (c : Byte), msg.length = 8 → inner.length = macLength a →
    let lb := if a = .sha512 then 16 else 8
    (shaBlocks (xorBytes (keyBlock a key) c ++ msg) (blockSize a) lb).length = 2 ∧
    (shaBlocks (xorBytes (keyBlock a key) c ++ inner) (blockSize a) lb).length = 2) ∧
  (∀ m : List Byte,
    hashOf .sha1 m = hashDigest 4 5 ((shaBlocks m (blockSize .sha1) 8).foldl sha1Compress sha1Init) ∧
    hashOf .sha256 m =
      hashDigest 4 8 ((shaBlocks m (blockSize .sha256) 8).foldl (sha2Compress sha256Params) sha256Params.init) ∧
    hashOf .sha512 m =
      hashDigest 8 8 ((shaBlocks m (blockSize .sha512) 16).foldl (sha2Compress sha512Params) sha512Params.init))

/-- Two keys of at most B bytes that differ only by trailing zero bytes give the same MAC; a key longer than B and the
L-byte key H(key) give the same MAC (R166). -/
def Obligations.EquivalentKeysGiveOneMac : Prop :=
  (∀ (a : HashAlg) (key msg : List Byte) (n : Nat), key.length + n ≤ blockSize a →
    hmac a (key ++ zeros n) msg = hmac a key msg) ∧
  (∀ (a : HashAlg) (key msg : List Byte), blockSize a < key.length →
    hmac a (hashOf a key) msg = hmac a key msg)

/-- R203: the truncated value is the big-endian number of the four window bytes with its top bit cleared. -/
def Obligations.TruncationValue : Prop :=
  ∀ (mac : List Byte) (off : Nat), off + 3 < mac.length →
    (truncValue mac off).toNat = bytesVal ((mac.drop off).take 4) &&& 0x7FFFFFFF

/-- R201: the window lies within bytes 0 to 18 and the last byte gives only its low nibble, so two MACs of one length that
agree on bytes 0 to 18 and on that nibble truncate alike. -/
def Obligations.TruncationReadsOnlyWindowAndNibble : Prop :=
  ∀ m n : List Byte, 20 ≤ m.length → n.length = m.length → (∀ i, i ≤ 18 → m[i]? = n[i]?) →
    (m.getD (m.length - 1) 0).extractLsb' 0 4 = (n.getD (n.length - 1) 0).extractLsb' 0 4 →
    trunc m = trunc n ∧ (truncOffset m).toNat + 3 ≤ 18

/-- R211 and R212: for 1 to 8 digits the code is the remainder of P by 10^digits, below 10^digits. -/
def Obligations.ReduceIsRemainder : Prop :=
  ∀ (p : BitVec 31) (d : Nat), 1 ≤ d → d ≤ 8 →
    ∃ c, reduceCode p d = some c ∧ c.toNat = p.toNat % 10 ^ d ∧ c.toNat < 10 ^ d

/-- R215: the code string has exactly `digits` characters, each '0' to '9', and read as a decimal number it is the code. -/
def Obligations.CodeStringIsDecimal : Prop :=
  ∀ (c : BitVec 27) (d : Nat), 1 ≤ d → d ≤ 8 → c.toNat < 10 ^ d →
    ∃ str, formatCode c d = some str ∧ str.length = d ∧
      (∀ b ∈ str, 0x30 ≤ b.toNat ∧ b.toNat ≤ 0x39) ∧ decimalValue str = c.toNat ∧
      (c = 0 → str = List.replicate d 0x30)

/-- For one P the k-digit string is the last k characters of the m-digit string (R216). -/
def Obligations.ShorterCodesAreSuffixes : Prop :=
  ∀ (p : BitVec 31) (k m : Nat), 1 ≤ k → k ≤ m → m ≤ 8 →
    ∃ (ck cm : BitVec 27) (sk sm : List Byte), reduceCode p k = some ck ∧ reduceCode p m = some cm ∧
      ck.toNat = cm.toNat % 10 ^ k ∧ formatCode ck k = some sk ∧ formatCode cm m = some sm ∧ sk = sm.drop (m - k)

/-- R221 to R223: the time step is defined exactly for step ≥ 1 and now ≥ t0, and is then the floor of the exact quotient,
never a difference modulo 2^64. -/
def Obligations.TimeStepIsFloor : Prop :=
  ∀ now t0 step : DWord,
    (timeStep now t0 step = none ↔ step.toNat = 0 ∨ now.toNat < t0.toNat) ∧
    ∀ q, timeStep now t0 step = some q → q.toNat = (now.toNat - t0.toNat) / step.toNat

/-! ### Control commands and reset (48_control_commands.md, 70_reset_and_hazards.md) -/

/-- R231: ACK while idle clears DONE, ERR, ERRCODE, WRDROP and every result register, and changes nothing else; `irq`
falls. While busy it is dropped and sets WRDROP. -/
def Obligations.AckClearsOutcome : Prop :=
  ∀ s : State,
    (s.busy = false →
      ∃ t, exec .ack s = .next t ∧
        t = { s with done := false, err := false, errcode := .noError, wrdrop := false, results := Results.zero } ∧
        t.irq = false) ∧
    (s.busy = true → exec .ack s = .next { s with wrdrop := true })

/-- R232: SRST, taken busy or idle, leaves every piece of state at its reset value except IEN, which is unchanged; every
stored byte of the key memory then reads 0x00. -/
def Obligations.SrstResetsAllButIen : Prop :=
  ∀ s : State, ∃ t, exec .srst s = .next t ∧
    t = { State.reset with ien := s.ien, pending := s.pending, replies := s.replies } ∧
    t.secret = [] ∧ ∀ a, a < s.keylen.toNat → t.key.read a = 0

/-- R58: Reset and SRST put the block into the reset state, SRST keeping IEN; and the values of the reset state, as the Host
reads them: ID, STEP_LO = 30, and 0 at every other offset; the key and scratch empty, PHASE IDLE and `irq` low. -/
def Obligations.ResetValues : Prop :=
  (∀ s : State,
    runEvent .reset s = .next { State.reset with pending := s.pending, replies := s.replies } ∧
    exec .srst s = .next { State.reset with ien := s.ien, pending := s.pending, replies := s.replies }) ∧
  (∀ i : Fin 64, regRead i State.reset =
    if i = regIndex .id then 0x4F545031 else if i = regIndex .stepLo then 30 else 0) ∧
  State.reset.scratch = Scratch.zero ∧ State.reset.secret = [] ∧
  State.reset.irq = false ∧ State.reset.phase = .idle

/-- Reset and SRST differ in one thing only: Reset clears IEN, SRST leaves it (R281). -/
def Obligations.ResetAndSrstDifferInIen : Prop :=
  ∀ s : State, ∃ t u, runEvent .reset s = .next t ∧ exec .srst s = .next u ∧ t = { u with ien := 0 } ∧ u.ien = s.ien

/-! ### The register window (10_state.md, 20_memory.md) -/

/-- A write to an operand register while idle is read back at once and no other offset reads differently: no register
aliases another (R22, R73, R86). -/
def Obligations.OperandWriteReadsBack : Prop :=
  ∀ (s : State) (i : Fin 64) (r : Reg) (v : Word), s.busy = false → regAt i = some r → isOperand r = true →
    ∃ t, regWrite i v s = .next t ∧ regRead i t = v ∧ (∀ j, j ≠ i → regRead j t = regRead j s) ∧
      SameKey s t ∧ SameOperation s t ∧ SameHostSide s t ∧ t.ien = s.ien ∧ t.wrdrop = s.wrdrop

/-- R40: IEN, word 4 of the window, is 0 after reset; it takes bits 1:0 of a word at any time, busy or idle, reads them back
with zeros above, and the write changes nothing else. -/
def Obligations.IenIsWritableAtAnyTime : Prop :=
  regIndex .ien = 4 ∧ State.reset.ien = 0 ∧
  ∀ (s : State) (v : Word), ∃ t, regWrite (regIndex .ien) v s = .next t ∧ t = { s with ien := v.extractLsb' 0 2 } ∧
    regRead (regIndex .ien) t = (v &&& 3)

/-- A write to a read-only register or to a reserved offset is ignored, busy or idle: no state changes (R50, R73). -/
def Obligations.ReadOnlyWritesAreIgnored : Prop :=
  ∀ (s : State) (i : Fin 64) (v : Word),
    (∀ r, regAt i = some r → isOperand r = false → r ≠ .cmd → r ≠ .ien → regWrite i v s = .next s) ∧
    (regAt i = none → regWrite i v s = .next s)

/-- Each register stands at its own offset, the word index R21 gives it, and is found there; ID always reads 0x4F545031, CMD
and the reserved offsets 0 (R21, R30, R31, R50). -/
def Obligations.WindowLayout : Prop :=
  (∀ r : Reg, regAt (regIndex r) = some r) ∧
  (regIndex .id = 0 ∧ regIndex .cmd = 1 ∧ regIndex .status = 2 ∧ regIndex .errcode = 3 ∧ regIndex .ien = 4 ∧
    regIndex .alg = 5 ∧ regIndex .digits = 6 ∧ regIndex .keylen = 7 ∧ regIndex .ctrLo = 8 ∧ regIndex .ctrHi = 9 ∧
    regIndex .nowLo = 10 ∧ regIndex .nowHi = 11 ∧ regIndex .t0Lo = 12 ∧ regIndex .t0Hi = 13 ∧ regIndex .stepLo = 14 ∧
    regIndex .stepHi = 15 ∧ regIndex .mfLo = 16 ∧ regIndex .mfHi = 17 ∧ regIndex .offset = 18 ∧
    regIndex .trunc = 19 ∧ regIndex .code = 20 ∧ regIndex .strlen = 21 ∧ regIndex .str0 = 22 ∧ regIndex .str1 = 23 ∧
    regIndex .maclen = 24 ∧ ∀ i : Fin 16, (regIndex (.mac i)).val = 32 + i.val) ∧
  (∀ i : Fin 64, regAt i = none ↔ (25 ≤ i.val ∧ i.val ≤ 31) ∨ 48 ≤ i.val) ∧
  (∀ s : State, regRead (regIndex .id) s = 0x4F545031 ∧ regRead (regIndex .cmd) s = 0 ∧
    ∀ i : Fin 64, regAt i = none → regRead i s = 0)

/-- R50: the reserved bits of every register read 0 in every state. -/
def Obligations.ReservedBitsReadZero : Prop :=
  ∀ s : State,
    (∀ k, (5 ≤ k ∧ k ≤ 7) ∨ 12 ≤ k → (regRead (regIndex .status) s).getLsbD k = false) ∧
    (∀ k, 3 ≤ k → (regRead (regIndex .errcode) s).getLsbD k = false) ∧
    (∀ k, 2 ≤ k → (regRead (regIndex .ien) s).getLsbD k = false) ∧
    (∀ k, 4 ≤ k → (regRead (regIndex .offset) s).getLsbD k = false) ∧
    (regRead (regIndex .trunc) s).getLsbD 31 = false ∧
    (∀ k, 27 ≤ k → (regRead (regIndex .code) s).getLsbD k = false) ∧
    (∀ k, 4 ≤ k → (regRead (regIndex .strlen) s).getLsbD k = false) ∧
    (∀ k, 7 ≤ k → (regRead (regIndex .maclen) s).getLsbD k = false)

/-- R32: the fields of STATUS, bit by bit, PHASE by the numbers of R36, its reserved bits, its value after reset, and that a
write to it is ignored and a read of it changes nothing but the Host's replies. -/
def Obligations.StatusLayout : Prop :=
  regIndex .status = 2 ∧ regRead (regIndex .status) State.reset = 0 ∧
  ∀ s : State,
    (regRead (regIndex .status) s).getLsbD 0 = s.busy ∧ (regRead (regIndex .status) s).getLsbD 1 = s.done ∧
    (regRead (regIndex .status) s).getLsbD 2 = s.err ∧ (regRead (regIndex .status) s).getLsbD 3 = s.wrdrop ∧
    (regRead (regIndex .status) s).getLsbD 4 = s.keyovf ∧
    (regRead (regIndex .status) s).extractLsb' 8 4 =
      (match s.phase with
        | .idle => 0
        | .check => 1
        | .mfsel => 2
        | .encode => 3
        | .keyprep => 4
        | .inner => 5
        | .outer => 6
        | .trunc => 7
        | .reduce => 8
        | .format => 9
        | .commit => 10) ∧
    (∀ k, (5 ≤ k ∧ k ≤ 7) ∨ 12 ≤ k → (regRead (regIndex .status) s).getLsbD k = false) ∧
    (∀ v, regWrite (regIndex .status) v s = .next s) ∧
    runEvent (.regRead (regIndex .status)) s = .next { s with replies := regRead (regIndex .status) s :: s.replies }

/-- R52: `irq` is raised exactly by DONE with IEN[0] or by ERR with IEN[1]; it is low from an acceptance on. -/
def Obligations.InterruptOutput : Prop :=
  (∀ s : State, s.irq = true ↔ (s.done = true ∧ s.ien.getLsbD 0 = true) ∨ (s.err = true ∧ s.ien.getLsbD 1 = true)) ∧
  (∀ (op : GenOp) (s : State), (s.accept op).irq = false)

/-- No register returns a key byte: what any offset reads as does not depend on the key memory's contents (R53). -/
def Obligations.KeyCannotBeRead : Prop :=
  ∀ (s : State) (k : Memory) (i : Fin 64), regRead i { s with key := k } = regRead i s

/-- R77: inside the window an aligned 32-bit access is the transaction at its offset; every other access there is answered by
the bus interface, a read returning 0; outside the window the block does not respond (R80). Only a transaction is an event
to come: any other access changes no state. -/
def Obligations.RejectedAccessChangesNothing : Prop :=
  (∀ i : Fin 64, busRead (4 * i.val) 32 = some (.transaction (.regRead i)) ∧
    ∀ v, busWrite (4 * i.val) 32 v = some (.transaction (.regWrite i v))) ∧
  (∀ offset width : Nat, ¬ (width = 32 ∧ offset % 4 = 0) → offset < 256 →
    busRead offset width = some (.rejected (some 0)) ∧ ∀ v, busWrite offset width v = some (.rejected none)) ∧
  (∀ offset width : Nat, 256 ≤ offset → busRead offset width = none ∧ ∀ v, busWrite offset width v = none) ∧
  (∀ (s : State) (offset width : Nat), ¬ (width = 32 ∧ offset % 4 = 0 ∧ offset < 256) →
    s.access (busRead offset width) = s ∧ ∀ v, s.access (busWrite offset width v) = s) ∧
  (∀ (s : State) (e : Event), s.access (some (.transaction e)) = { s with pending := s.pending ++ [e] })

/-! ### The whole machine -/

/-- What a command leaves unchanged: no command but SRST writes an operand register, and none writes IEN (R233); NOP, GENH,
GENT and ACK leave every byte of the key memory as it was; KEYB changes at most the byte at address KEYLEN; KEYCLR
leaves the operation and its outcome. The Host's side is never touched. -/
def Obligations.CommandFrame : Prop :=
  ∀ (i : Instr) (s t : State), exec i s = .next t → t.ien = s.ien ∧ SameHostSide s t ∧
    (i ≠ .srst → SameOperands s t) ∧
    (i = .nop ∨ i = .genh ∨ i = .gent ∨ i = .ack → SameKey s t ∧ ∀ a, t.key.read a = s.key.read a) ∧
    (∀ b, i = .keyb b → s.key.wf = true → ∀ a, a ≠ s.keylen.toNat → t.key.read a = s.key.read a) ∧
    (i = .nop ∨ i = .keyclr ∨ (∃ b, i = .keyb b) → SameOperation s t ∧ (s.busy = false → t.wrdrop = s.wrdrop)) ∧
    (i = .genh ∨ i = .gent → s.busy = false → t.wrdrop = s.wrdrop) ∧
    (i = .ack → t.busy = s.busy ∧ t.phase = s.phase ∧ t.scratch = s.scratch)

/-- The key, its length and KEYOVF change in no step but one whose next event is Reset or a write of KEYCLR, KEYB or SRST to
CMD: the key survives GENH, GENT and ACK and every Core step (R53, R125). -/
def Obligations.KeyChangesOnlyByKeyCommands : Prop :=
  ∀ s t : State, step s = .next t → ¬ SameKey s t →
    (∃ rest, s.pending = .reset :: rest) ∨
    (∃ w, nextCommand s = some w ∧ (w = encode .srst ∨
      (s.busy = false ∧ (w = encode .keyclr ∨ ∃ b, w = encode (.keyb b)))))

/-- The operand registers and IEN change in no step but one whose next event is Reset, SRST (operands only), or a write to
the register itself: no command changes IEN, and none but SRST an operand register (R90, R233). -/
def Obligations.HostRegistersChangeOnlyByHost : Prop :=
  ∀ s t : State, step s = .next t →
    (t.ien ≠ s.ien → (∃ rest, s.pending = .reset :: rest) ∨ ∃ v rest, s.pending = .regWrite (regIndex .ien) v :: rest) ∧
    (¬ SameOperands s t → (∃ rest, s.pending = .reset :: rest) ∨ nextCommand s = some (encode .srst) ∨
      ∃ i r v rest, s.pending = .regWrite i v :: rest ∧ s.busy = false ∧ regAt i = some r ∧ isOperand r = true)

/-- The result registers change in no step but these: Reset, SRST, ACK, GENH, GENT or an illegal word, which set them all to
0 (all but the first two only while idle), and the Core's COMMIT, which sets DONE with them. So NOP, KEYCLR, KEYB and
operand writes leave them (R42, R86, R295). -/
def Obligations.ResultsChangeOnlyTogether : Prop :=
  ∀ s t : State, step s = .next t → t.results ≠ s.results →
    (t.results = Results.zero ∧ ((∃ rest, s.pending = .reset :: rest) ∨ ∃ w, nextCommand s = some w ∧
      (w = encode .srst ∨ (s.busy = false ∧
        (w = encode .genh ∨ w = encode .gent ∨ w = encode .ack ∨ ∃ e, decode w = .error e))))) ∨
    (s.busy = true ∧ s.phase = .commit ∧ t.done = true ∧ t.busy = false ∧
      (s.pending = [] ∨ ∃ rest, s.pending = .core :: rest))

/-- WRDROP is sticky: no step clears it but Reset, SRST and an ACK taken while idle, and none sets it but the write, while
busy, of an operand register or of a word other than SRST to CMD (R37, R291). -/
def Obligations.WrdropRecordsDrops : Prop :=
  ∀ s t : State, step s = .next t →
    (s.wrdrop = true → t.wrdrop = false → (∃ rest, s.pending = .reset :: rest) ∨ nextCommand s = some (encode .srst) ∨
      (s.busy = false ∧ nextCommand s = some (encode .ack))) ∧
    (s.wrdrop = false → t.wrdrop = true → s.busy = true ∧
      ∃ i v rest, s.pending = .regWrite i v :: rest ∧
        ((i = regIndex .cmd ∧ v ≠ encode .srst) ∨ ∃ r, regAt i = some r ∧ isOperand r = true))

/-- While DONE = 0 every result register reads 0: no partial result is ever visible (R42, R51, R292), in every good state. -/
def Obligations.NoPartialResults : Prop :=
  ∀ (s : State) (r : Reg), GoodState s → s.done = false → isResult r = true → regRead (regIndex r) s = 0

/-- The reset state is good, and, being idle, on course (R51, R58). -/
def Obligations.ResetStateIsGood : Prop := GoodState State.reset ∧ OnCourse State.reset

/-- R51: every step, whatever the event, keeps the invariants. -/
def Obligations.StepKeepsGoodState : Prop :=
  ∀ s t : State, GoodState s → step s = .next t → GoodState t

/-- From a good state every step answers a next state: no phase after CHECK fails, no unit is used where it is not defined,
no key byte is written outside the key memory, and nothing is stuck (R135, R144, R205, R213). -/
def Obligations.StepFromGoodStateAnswersNext : Prop :=
  ∀ s : State, GoodState s → ∃ t, step s = .next t

/-- Schedule independence: every step, whatever the Host does meanwhile, keeps the operation in flight on course for the
big-step outcome of its operands and key, and the result commit shows exactly that outcome (R51, R61, R145). -/
def Obligations.EveryScheduleReachesBigStep : Prop :=
  (∀ s t : State, GoodState s → OnCourse s → step s = .next t → OnCourse t) ∧
  (∀ s t : State, GoodState s → OnCourse s → s.busy = true → coreStep s = .next t → t.busy = false →
    t = bigStep s.scratch.op s)

/-- A WAIT ends: from a good state with WAIT next, at most 21 steps bring BUSY = 0 and the WAIT is over. That the Core takes
one step between two polls is the model's choice (DESIGN CHOICE, notes/assumptions/9.md; R109, R144). -/
def Obligations.WaitEnds : Prop :=
  ∀ (s : State) (rest : List Event), GoodState s → s.pending = .wait :: rest →
    ∃ (n : Nat) (t : State), n ≤ 21 ∧ Host.Core.run core n s = .next t ∧ t.busy = false ∧ t.pending = rest ∧
      SameOperands s t ∧ SameKey s t

/-- What an expanded script writes: SET64 writes the low word and then the high word, and read back they are the value;
LDKEY is KEYCLR and one KEYB per byte (R109). -/
def Obligations.SetPairWritesBothHalves : Prop :=
  ∀ (s : State) (p : Pair) (v : DWord) (rest : List Event), s.busy = false → s.pending = set64 p v ++ rest →
    ∃ t : State, Host.Core.run core 2 s = .next t ∧ t.pending = rest ∧
      regRead (regIndex (pairRegs p).2) t ++ regRead (regIndex (pairRegs p).1) t = v ∧
      SameKey s t ∧ SameOperation s t
end

