-- ==== Sys2Proof/Laws/Bytes.lean ====
section
/-! SUPPORT. Byte strings: lengths, the number a string stands for, and what a padded register holds. -/

namespace Sys2Proof.Machine

@[simp] theorem beBytes_length (n v : Nat) : (beBytes n v).length = n := by simp [beBytes]

@[simp] theorem zeros_length (n : Nat) : (zeros n).length = n := by simp [zeros]

theorem zeros_add (m n : Nat) : zeros (m + n) = zeros m ++ zeros n := (List.replicate_append_replicate ..).symm

@[simp] theorem zeros_take (n k : Nat) : (zeros n).take k = zeros (min k n) := by simp [zeros]

@[simp] theorem zeros_zero : zeros 0 = [] := rfl

@[simp] theorem xorBytes_length (s : List Byte) (c : Byte) : (xorBytes s c).length = s.length := by simp [xorBytes]

@[simp] theorem bytesVal_nil : bytesVal [] = 0 := rfl

theorem bytesVal_foldl (s : List Byte) (n : Nat) :
    s.foldl (fun acc b => acc * 256 + b.toNat) n = n * 256 ^ s.length + bytesVal s := by
  induction s generalizing n with
  | nil => simp
  | cons b s ih =>
    simp only [bytesVal, List.foldl_cons, List.length_cons]
    rw [ih, ih (0 * 256 + b.toNat)]
    ring

@[simp] theorem bytesVal_cons (b : Byte) (s : List Byte) :
    bytesVal (b :: s) = b.toNat * 256 ^ s.length + bytesVal s := by
  rw [bytesVal, List.foldl_cons, bytesVal_foldl, Nat.zero_mul, Nat.zero_add]

theorem bytesVal_append (s t : List Byte) : bytesVal (s ++ t) = bytesVal s * 256 ^ t.length + bytesVal t := by
  rw [bytesVal, List.foldl_append, bytesVal_foldl]
  rfl

theorem bytesVal_lt (s : List Byte) : bytesVal s < 256 ^ s.length := by
  induction s with
  | nil => simp
  | cons b s ih =>
    rw [bytesVal_cons, List.length_cons, pow_succ]
    have := b.isLt
    nlinarith [Nat.one_le_pow s.length 256 (by norm_num)]

/-- A padded register holds the string, then zeros. -/
theorem padTo_toList {n : Nat} {s : List Byte} (h : s.length ≤ n) :
    (padTo n s).toList = s ++ zeros (n - s.length) := by
  change (s ++ zeros n).take n = _
  rw [List.take_append, List.take_of_length_le h, zeros_take, Nat.min_eq_left (Nat.sub_le ..)]

/-- The string is read back from the register it was padded into. -/
theorem padTo_take {n : Nat} {s : List Byte} (h : s.length ≤ n) : (padTo n s).toList.take s.length = s := by
  simp [padTo_toList h]

end Sys2Proof.Machine
end

