-- ==== Sys2Proof/Laws/Config.lean ====
section
/-! SUPPORT. KEY_MAX is from 1 to 2^32 - 1 (00_scope.md R8), whatever it is. -/

namespace Sys2Proof.Config

theorem keyMax_pos : 1 ≤ keyMax := Nat.succ_pos _

theorem keyMax_lt : keyMax < 2 ^ 32 := by
  have := keyMaxLessOne.isLt
  unfold keyMax
  omega

end Sys2Proof.Config
end

