-- ==== Sys2Proof/Laws/Hash.lean ====
section
/-! SUPPORT. The lengths of digests, key blocks and MACs (43_hmac.md R160, 44_sha.md R176, R182, R189). -/

namespace Sys2Proof.Machine

/-- A stored chaining value has n words of wb bytes. -/
@[simp] theorem hashDigest_length {w : Nat} (wb n : Nat) (h : HashWords w) : (hashDigest wb n h).length = n * wb := by
  simp [hashDigest]

/-- A line of n constants gives n words. -/
@[simp] theorem constantLine_length (w n v : Nat) : (constantLine w n v).length = n := by simp [constantLine]

theorem sha1_length (m : List Byte) : (sha1 m).length = 20 := hashDigest_length 4 5 _

theorem sha2_length {w : Nat} (p : Sha2Params w) (m : List Byte) : (sha2 p m).length = 8 * p.wordBytes :=
  hashDigest_length p.wordBytes 8 _

/-- Every hash returns L bytes. -/
theorem hashOf_length (a : HashAlg) (m : List Byte) : (hashOf a m).length = macLength a := by
  cases a
  · exact sha1_length m
  · exact sha2_length sha256Params m
  · exact sha2_length sha512Params m

theorem macLength_lt_blockSize (a : HashAlg) : macLength a < blockSize a := by cases a <;> decide

theorem blockSize_le (a : HashAlg) : blockSize a ≤ 128 := by cases a <;> decide

theorem macLength_le (a : HashAlg) : macLength a ≤ 64 := by cases a <;> decide

theorem macLength_ge (a : HashAlg) : 20 ≤ macLength a := by cases a <;> decide

/-- The key block has B bytes (R161). -/
theorem keyBlock_length (a : HashAlg) (key : List Byte) : (keyBlock a key).length = blockSize a := by
  have := macLength_lt_blockSize a
  simp only [keyBlock]
  split <;> simp [hashOf_length] <;> omega

theorem innerHash_length (a : HashAlg) (k0 msg : List Byte) : (innerHash a k0 msg).length = macLength a :=
  hashOf_length _ _

theorem outerHash_length (a : HashAlg) (k0 inner : List Byte) : (outerHash a k0 inner).length = macLength a :=
  hashOf_length _ _

/-- The MAC has L bytes (R164). -/
theorem hmac_length (a : HashAlg) (key msg : List Byte) : (hmac a key msg).length = macLength a :=
  hashOf_length _ _

/-- The selector selects exactly for ALG 0, 1 and 2 (R160). -/
theorem selectHash_isSome (alg : Word) : (selectHash alg).isSome = true ↔ alg.toNat ≤ 2 := by
  unfold selectHash
  split <;> simp_all
  omega

end Sys2Proof.Machine
end

