-- ==== Sys2Proof/Laws/Memory.lean ====
section
/-! SUPPORT. The key memory: a read after a write, and the canonical form that every operation keeps. -/

namespace Sys2Proof.Machine

@[simp] theorem Memory.read_nil (a : Nat) : Memory.read [] a = 0 := rfl

theorem Memory.wf_cons (a : Nat) (v : Byte) (m : Memory) :
    Memory.wf ((a, v) :: m) = true ↔ v ≠ 0 ∧ (∀ c ∈ m, a < c.1) ∧ m.wf = true := by
  simp [Memory.wf, and_assoc]

/-- An address below every listed one reads as 0x00. -/
theorem Memory.read_below {m : Memory} {a : Nat} (h : ∀ c ∈ m, a < c.1) : m.read a = 0 := by
  induction m with
  | nil => rfl
  | cons c m ih =>
    obtain ⟨b, v⟩ := c
    have hb := h (b, v) (by simp)
    simp only [Memory.read, if_neg (show ¬ a = b by simp at hb; omega)]
    exact ih fun c hc => h c (by simp [hc])

/-- Every listed address of the memory after a write is the written one or was listed before. -/
theorem Memory.mem_write {m : Memory} {a : Nat} {v : Byte} {c : Host.Cell} (h : c ∈ m.write a v) :
    c.1 = a ∨ c ∈ m := by
  induction m with
  | nil =>
    simp only [Memory.write] at h
    split at h <;> simp_all
  | cons d m ih =>
    obtain ⟨b, x⟩ := d
    simp only [Memory.write] at h
    split at h
    · split at h
      · exact .inr h
      · rcases List.mem_cons.1 h with rfl | h
        · exact .inl rfl
        · exact .inr h
    · split at h
      · split at h
        · exact .inr (List.mem_cons_of_mem _ h)
        · rcases List.mem_cons.1 h with rfl | h
          · exact .inl rfl
          · exact .inr (List.mem_cons_of_mem _ h)
      · rcases List.mem_cons.1 h with rfl | h
        · exact .inr (by simp)
        · rcases ih h with h | h
          · exact .inl h
          · exact .inr (List.mem_cons_of_mem _ h)

/-- A write keeps the canonical form. -/
theorem Memory.write_wf {m : Memory} (a : Nat) (v : Byte) (h : m.wf = true) : (m.write a v).wf = true := by
  induction m with
  | nil =>
    simp only [Memory.write]
    split <;> simp_all [Memory.wf]
  | cons c m ih =>
    obtain ⟨b, x⟩ := c
    rw [Memory.wf_cons] at h
    obtain ⟨hx, hb, hm⟩ := h
    have hbm : Memory.wf ((b, x) :: m) = true := (Memory.wf_cons b x m).2 ⟨hx, hb, hm⟩
    simp only [Memory.write]
    split
    · rename_i hab
      split
      · exact hbm
      · rename_i hv
        refine (Memory.wf_cons _ _ _).2 ⟨hv, fun c hc => ?_, hbm⟩
        rcases List.mem_cons.1 hc with rfl | hc
        · exact hab
        · exact hab.trans (hb c hc)
    · split
      · rename_i hab
        subst hab
        split
        · exact hm
        · rename_i hv
          exact (Memory.wf_cons _ _ _).2 ⟨hv, hb, hm⟩
      · refine (Memory.wf_cons _ _ _).2 ⟨hx, fun c hc => ?_, ih hm⟩
        rcases Memory.mem_write hc with h | h
        · omega
        · exact hb c h

/-- What a memory reads as after a write: the byte written at that address, the old byte at every other. -/
theorem Memory.read_write {m : Memory} (h : m.wf = true) (a : Nat) (v : Byte) (b : Nat) :
    (m.write a v).read b = if b = a then v else m.read b := by
  induction m with
  | nil =>
    simp only [Memory.write]
    split <;> simp_all [Memory.read]
  | cons c m ih =>
    obtain ⟨d, x⟩ := c
    obtain ⟨hx, hd, hm⟩ := (Memory.wf_cons _ _ _).1 h
    have below : ∀ k, k ≤ d → Memory.read m k = 0 := fun k hk =>
      Memory.read_below fun c hc => lt_of_le_of_lt hk (hd c hc)
    simp only [Memory.write]
    split
    · rename_i hlt
      split
      · rename_i hv
        split
        · subst hv
          subst_vars
          simp [Memory.read, below b hlt.le, show ¬ b = d by omega]
        · rfl
      · simp [Memory.read]
    · split
      · subst_vars
        split
        · subst_vars
          by_cases hb : b = d
          · subst hb; simp [below b le_rfl]
          · simp [Memory.read, hb]
        · by_cases hb : b = d <;> simp [Memory.read, hb]
      · rename_i hne
        simp only [Memory.read, ih hm]
        by_cases hb : b = d
        · simp [hb, show ¬ d = a by omega]
        · simp [hb]

@[simp] theorem Memory.readBytes_length (m : Memory) (a n : Nat) : (m.readBytes a n).length = n := by
  simp [Memory.readBytes]

/-- Equal bytes give equal strings. -/
theorem Memory.readBytes_congr {m k : Memory} {a n : Nat} (h : ∀ i < n, m.read (a + i) = k.read (a + i)) :
    m.readBytes a n = k.readBytes a n := by
  simp only [Memory.readBytes]
  exact List.map_congr_left fun i hi => h i (List.mem_range.1 hi)

theorem Memory.readBytes_succ (m : Memory) (a n : Nat) : m.readBytes a (n + 1) = m.readBytes a n ++ [m.read (a + n)] := by
  simp [Memory.readBytes, List.range_succ]

/-- Appending one byte after the first n. -/
theorem Memory.readBytes_write {m : Memory} (h : m.wf = true) (n : Nat) (v : Byte) :
    (m.write n v).readBytes 0 (n + 1) = m.readBytes 0 n ++ [v] := by
  rw [Memory.readBytes_succ, Memory.readBytes_congr (k := m) fun i hi => by
    rw [Memory.read_write h, if_neg (by omega)]]
  simp [Memory.read_write h]

theorem Memory.wf_nil : Memory.wf [] = true := rfl

/-- The reset state's key memory is in canonical form. -/
theorem State.reset_key_wf : State.reset.key.wf = true := rfl

/-- Emptying the key memory keeps the form. -/
theorem State.clearKey_key_wf (s : State) : s.clearKey.key.wf = true := rfl

@[simp] theorem State.secret_length (s : State) : s.secret.length = s.keylen.toNat := by simp [State.secret]

end Sys2Proof.Machine
end

