-- ==== Sys2Proof/Laws/State.lean ====
section
/-! SUPPORT. One lemma per field per update of the state, each true by computation, so that no proof unfolds a record
update; and the fields of the reset state. -/

namespace Sys2Proof.Machine

/-! ### The reset state (R58) -/

@[simp] theorem State.reset_alg : State.reset.alg = 0 := rfl
@[simp] theorem State.reset_digits : State.reset.digits = 0 := rfl
@[simp] theorem State.reset_ctrLo : State.reset.ctrLo = 0 := rfl
@[simp] theorem State.reset_ctrHi : State.reset.ctrHi = 0 := rfl
@[simp] theorem State.reset_nowLo : State.reset.nowLo = 0 := rfl
@[simp] theorem State.reset_nowHi : State.reset.nowHi = 0 := rfl
@[simp] theorem State.reset_t0Lo : State.reset.t0Lo = 0 := rfl
@[simp] theorem State.reset_t0Hi : State.reset.t0Hi = 0 := rfl
@[simp] theorem State.reset_stepLo : State.reset.stepLo = 30 := rfl
@[simp] theorem State.reset_stepHi : State.reset.stepHi = 0 := rfl
@[simp] theorem State.reset_busy : State.reset.busy = false := rfl
@[simp] theorem State.reset_done : State.reset.done = false := rfl
@[simp] theorem State.reset_err : State.reset.err = false := rfl
@[simp] theorem State.reset_wrdrop : State.reset.wrdrop = false := rfl
@[simp] theorem State.reset_keyovf : State.reset.keyovf = false := rfl
@[simp] theorem State.reset_phase : State.reset.phase = .idle := rfl
@[simp] theorem State.reset_errcode : State.reset.errcode = .noError := rfl
@[simp] theorem State.reset_ien : State.reset.ien = 0 := rfl
@[simp] theorem State.reset_keylen : State.reset.keylen = 0 := rfl
@[simp] theorem State.reset_key : State.reset.key = [] := rfl
@[simp] theorem State.reset_results : State.reset.results = Results.zero := rfl
@[simp] theorem State.reset_scratch : State.reset.scratch = Scratch.zero := rfl
@[simp] theorem State.reset_pending : State.reset.pending = [] := rfl
@[simp] theorem State.reset_replies : State.reset.replies = [] := rfl

/-! ### dropWrite -/

@[simp] theorem State.dropWrite_alg (s : State) : (s.dropWrite).alg = s.alg := rfl
@[simp] theorem State.dropWrite_digits (s : State) : (s.dropWrite).digits = s.digits := rfl
@[simp] theorem State.dropWrite_ctrLo (s : State) : (s.dropWrite).ctrLo = s.ctrLo := rfl
@[simp] theorem State.dropWrite_ctrHi (s : State) : (s.dropWrite).ctrHi = s.ctrHi := rfl
@[simp] theorem State.dropWrite_nowLo (s : State) : (s.dropWrite).nowLo = s.nowLo := rfl
@[simp] theorem State.dropWrite_nowHi (s : State) : (s.dropWrite).nowHi = s.nowHi := rfl
@[simp] theorem State.dropWrite_t0Lo (s : State) : (s.dropWrite).t0Lo = s.t0Lo := rfl
@[simp] theorem State.dropWrite_t0Hi (s : State) : (s.dropWrite).t0Hi = s.t0Hi := rfl
@[simp] theorem State.dropWrite_stepLo (s : State) : (s.dropWrite).stepLo = s.stepLo := rfl
@[simp] theorem State.dropWrite_stepHi (s : State) : (s.dropWrite).stepHi = s.stepHi := rfl
@[simp] theorem State.dropWrite_busy (s : State) : (s.dropWrite).busy = s.busy := rfl
@[simp] theorem State.dropWrite_done (s : State) : (s.dropWrite).done = s.done := rfl
@[simp] theorem State.dropWrite_err (s : State) : (s.dropWrite).err = s.err := rfl
@[simp] theorem State.dropWrite_wrdrop (s : State) : (s.dropWrite).wrdrop = true := rfl
@[simp] theorem State.dropWrite_keyovf (s : State) : (s.dropWrite).keyovf = s.keyovf := rfl
@[simp] theorem State.dropWrite_phase (s : State) : (s.dropWrite).phase = s.phase := rfl
@[simp] theorem State.dropWrite_errcode (s : State) : (s.dropWrite).errcode = s.errcode := rfl
@[simp] theorem State.dropWrite_ien (s : State) : (s.dropWrite).ien = s.ien := rfl
@[simp] theorem State.dropWrite_keylen (s : State) : (s.dropWrite).keylen = s.keylen := rfl
@[simp] theorem State.dropWrite_key (s : State) : (s.dropWrite).key = s.key := rfl
@[simp] theorem State.dropWrite_results (s : State) : (s.dropWrite).results = s.results := rfl
@[simp] theorem State.dropWrite_scratch (s : State) : (s.dropWrite).scratch = s.scratch := rfl
@[simp] theorem State.dropWrite_pending (s : State) : (s.dropWrite).pending = s.pending := rfl
@[simp] theorem State.dropWrite_replies (s : State) : (s.dropWrite).replies = s.replies := rfl

/-! ### clearResults -/

@[simp] theorem State.clearResults_alg (s : State) : (s.clearResults).alg = s.alg := rfl
@[simp] theorem State.clearResults_digits (s : State) : (s.clearResults).digits = s.digits := rfl
@[simp] theorem State.clearResults_ctrLo (s : State) : (s.clearResults).ctrLo = s.ctrLo := rfl
@[simp] theorem State.clearResults_ctrHi (s : State) : (s.clearResults).ctrHi = s.ctrHi := rfl
@[simp] theorem State.clearResults_nowLo (s : State) : (s.clearResults).nowLo = s.nowLo := rfl
@[simp] theorem State.clearResults_nowHi (s : State) : (s.clearResults).nowHi = s.nowHi := rfl
@[simp] theorem State.clearResults_t0Lo (s : State) : (s.clearResults).t0Lo = s.t0Lo := rfl
@[simp] theorem State.clearResults_t0Hi (s : State) : (s.clearResults).t0Hi = s.t0Hi := rfl
@[simp] theorem State.clearResults_stepLo (s : State) : (s.clearResults).stepLo = s.stepLo := rfl
@[simp] theorem State.clearResults_stepHi (s : State) : (s.clearResults).stepHi = s.stepHi := rfl
@[simp] theorem State.clearResults_busy (s : State) : (s.clearResults).busy = s.busy := rfl
@[simp] theorem State.clearResults_done (s : State) : (s.clearResults).done = s.done := rfl
@[simp] theorem State.clearResults_err (s : State) : (s.clearResults).err = s.err := rfl
@[simp] theorem State.clearResults_wrdrop (s : State) : (s.clearResults).wrdrop = s.wrdrop := rfl
@[simp] theorem State.clearResults_keyovf (s : State) : (s.clearResults).keyovf = s.keyovf := rfl
@[simp] theorem State.clearResults_phase (s : State) : (s.clearResults).phase = s.phase := rfl
@[simp] theorem State.clearResults_errcode (s : State) : (s.clearResults).errcode = s.errcode := rfl
@[simp] theorem State.clearResults_ien (s : State) : (s.clearResults).ien = s.ien := rfl
@[simp] theorem State.clearResults_keylen (s : State) : (s.clearResults).keylen = s.keylen := rfl
@[simp] theorem State.clearResults_key (s : State) : (s.clearResults).key = s.key := rfl
@[simp] theorem State.clearResults_results (s : State) : (s.clearResults).results = Results.zero := rfl
@[simp] theorem State.clearResults_scratch (s : State) : (s.clearResults).scratch = s.scratch := rfl
@[simp] theorem State.clearResults_pending (s : State) : (s.clearResults).pending = s.pending := rfl
@[simp] theorem State.clearResults_replies (s : State) : (s.clearResults).replies = s.replies := rfl

/-! ### clearScratch -/

@[simp] theorem State.clearScratch_alg (s : State) : (s.clearScratch).alg = s.alg := rfl
@[simp] theorem State.clearScratch_digits (s : State) : (s.clearScratch).digits = s.digits := rfl
@[simp] theorem State.clearScratch_ctrLo (s : State) : (s.clearScratch).ctrLo = s.ctrLo := rfl
@[simp] theorem State.clearScratch_ctrHi (s : State) : (s.clearScratch).ctrHi = s.ctrHi := rfl
@[simp] theorem State.clearScratch_nowLo (s : State) : (s.clearScratch).nowLo = s.nowLo := rfl
@[simp] theorem State.clearScratch_nowHi (s : State) : (s.clearScratch).nowHi = s.nowHi := rfl
@[simp] theorem State.clearScratch_t0Lo (s : State) : (s.clearScratch).t0Lo = s.t0Lo := rfl
@[simp] theorem State.clearScratch_t0Hi (s : State) : (s.clearScratch).t0Hi = s.t0Hi := rfl
@[simp] theorem State.clearScratch_stepLo (s : State) : (s.clearScratch).stepLo = s.stepLo := rfl
@[simp] theorem State.clearScratch_stepHi (s : State) : (s.clearScratch).stepHi = s.stepHi := rfl
@[simp] theorem State.clearScratch_busy (s : State) : (s.clearScratch).busy = s.busy := rfl
@[simp] theorem State.clearScratch_done (s : State) : (s.clearScratch).done = s.done := rfl
@[simp] theorem State.clearScratch_err (s : State) : (s.clearScratch).err = s.err := rfl
@[simp] theorem State.clearScratch_wrdrop (s : State) : (s.clearScratch).wrdrop = s.wrdrop := rfl
@[simp] theorem State.clearScratch_keyovf (s : State) : (s.clearScratch).keyovf = s.keyovf := rfl
@[simp] theorem State.clearScratch_phase (s : State) : (s.clearScratch).phase = s.phase := rfl
@[simp] theorem State.clearScratch_errcode (s : State) : (s.clearScratch).errcode = s.errcode := rfl
@[simp] theorem State.clearScratch_ien (s : State) : (s.clearScratch).ien = s.ien := rfl
@[simp] theorem State.clearScratch_keylen (s : State) : (s.clearScratch).keylen = s.keylen := rfl
@[simp] theorem State.clearScratch_key (s : State) : (s.clearScratch).key = s.key := rfl
@[simp] theorem State.clearScratch_results (s : State) : (s.clearScratch).results = s.results := rfl
@[simp] theorem State.clearScratch_scratch (s : State) : (s.clearScratch).scratch = Scratch.zero := rfl
@[simp] theorem State.clearScratch_pending (s : State) : (s.clearScratch).pending = s.pending := rfl
@[simp] theorem State.clearScratch_replies (s : State) : (s.clearScratch).replies = s.replies := rfl

/-! ### clearOutcome -/

@[simp] theorem State.clearOutcome_alg (s : State) : (s.clearOutcome).alg = s.alg := rfl
@[simp] theorem State.clearOutcome_digits (s : State) : (s.clearOutcome).digits = s.digits := rfl
@[simp] theorem State.clearOutcome_ctrLo (s : State) : (s.clearOutcome).ctrLo = s.ctrLo := rfl
@[simp] theorem State.clearOutcome_ctrHi (s : State) : (s.clearOutcome).ctrHi = s.ctrHi := rfl
@[simp] theorem State.clearOutcome_nowLo (s : State) : (s.clearOutcome).nowLo = s.nowLo := rfl
@[simp] theorem State.clearOutcome_nowHi (s : State) : (s.clearOutcome).nowHi = s.nowHi := rfl
@[simp] theorem State.clearOutcome_t0Lo (s : State) : (s.clearOutcome).t0Lo = s.t0Lo := rfl
@[simp] theorem State.clearOutcome_t0Hi (s : State) : (s.clearOutcome).t0Hi = s.t0Hi := rfl
@[simp] theorem State.clearOutcome_stepLo (s : State) : (s.clearOutcome).stepLo = s.stepLo := rfl
@[simp] theorem State.clearOutcome_stepHi (s : State) : (s.clearOutcome).stepHi = s.stepHi := rfl
@[simp] theorem State.clearOutcome_busy (s : State) : (s.clearOutcome).busy = s.busy := rfl
@[simp] theorem State.clearOutcome_done (s : State) : (s.clearOutcome).done = false := rfl
@[simp] theorem State.clearOutcome_err (s : State) : (s.clearOutcome).err = false := rfl
@[simp] theorem State.clearOutcome_wrdrop (s : State) : (s.clearOutcome).wrdrop = s.wrdrop := rfl
@[simp] theorem State.clearOutcome_keyovf (s : State) : (s.clearOutcome).keyovf = s.keyovf := rfl
@[simp] theorem State.clearOutcome_phase (s : State) : (s.clearOutcome).phase = s.phase := rfl
@[simp] theorem State.clearOutcome_errcode (s : State) : (s.clearOutcome).errcode = .noError := rfl
@[simp] theorem State.clearOutcome_ien (s : State) : (s.clearOutcome).ien = s.ien := rfl
@[simp] theorem State.clearOutcome_keylen (s : State) : (s.clearOutcome).keylen = s.keylen := rfl
@[simp] theorem State.clearOutcome_key (s : State) : (s.clearOutcome).key = s.key := rfl
@[simp] theorem State.clearOutcome_results (s : State) : (s.clearOutcome).results = Results.zero := rfl
@[simp] theorem State.clearOutcome_scratch (s : State) : (s.clearOutcome).scratch = s.scratch := rfl
@[simp] theorem State.clearOutcome_pending (s : State) : (s.clearOutcome).pending = s.pending := rfl
@[simp] theorem State.clearOutcome_replies (s : State) : (s.clearOutcome).replies = s.replies := rfl

/-! ### accept -/

@[simp] theorem State.accept_alg (s : State) (op : GenOp) : (s.accept op).alg = s.alg := rfl
@[simp] theorem State.accept_digits (s : State) (op : GenOp) : (s.accept op).digits = s.digits := rfl
@[simp] theorem State.accept_ctrLo (s : State) (op : GenOp) : (s.accept op).ctrLo = s.ctrLo := rfl
@[simp] theorem State.accept_ctrHi (s : State) (op : GenOp) : (s.accept op).ctrHi = s.ctrHi := rfl
@[simp] theorem State.accept_nowLo (s : State) (op : GenOp) : (s.accept op).nowLo = s.nowLo := rfl
@[simp] theorem State.accept_nowHi (s : State) (op : GenOp) : (s.accept op).nowHi = s.nowHi := rfl
@[simp] theorem State.accept_t0Lo (s : State) (op : GenOp) : (s.accept op).t0Lo = s.t0Lo := rfl
@[simp] theorem State.accept_t0Hi (s : State) (op : GenOp) : (s.accept op).t0Hi = s.t0Hi := rfl
@[simp] theorem State.accept_stepLo (s : State) (op : GenOp) : (s.accept op).stepLo = s.stepLo := rfl
@[simp] theorem State.accept_stepHi (s : State) (op : GenOp) : (s.accept op).stepHi = s.stepHi := rfl
@[simp] theorem State.accept_busy (s : State) (op : GenOp) : (s.accept op).busy = true := rfl
@[simp] theorem State.accept_done (s : State) (op : GenOp) : (s.accept op).done = false := rfl
@[simp] theorem State.accept_err (s : State) (op : GenOp) : (s.accept op).err = false := rfl
@[simp] theorem State.accept_wrdrop (s : State) (op : GenOp) : (s.accept op).wrdrop = s.wrdrop := rfl
@[simp] theorem State.accept_keyovf (s : State) (op : GenOp) : (s.accept op).keyovf = s.keyovf := rfl
@[simp] theorem State.accept_phase (s : State) (op : GenOp) : (s.accept op).phase = .check := rfl
@[simp] theorem State.accept_errcode (s : State) (op : GenOp) : (s.accept op).errcode = .noError := rfl
@[simp] theorem State.accept_ien (s : State) (op : GenOp) : (s.accept op).ien = s.ien := rfl
@[simp] theorem State.accept_keylen (s : State) (op : GenOp) : (s.accept op).keylen = s.keylen := rfl
@[simp] theorem State.accept_key (s : State) (op : GenOp) : (s.accept op).key = s.key := rfl
@[simp] theorem State.accept_results (s : State) (op : GenOp) : (s.accept op).results = Results.zero := rfl
@[simp] theorem State.accept_scratch (s : State) (op : GenOp) :
    (s.accept op).scratch = { s.scratch with op := op } := rfl
@[simp] theorem State.accept_pending (s : State) (op : GenOp) : (s.accept op).pending = s.pending := rfl
@[simp] theorem State.accept_replies (s : State) (op : GenOp) : (s.accept op).replies = s.replies := rfl

/-! ### setError -/

@[simp] theorem State.setError_alg (s : State) (e : ErrCode) : (s.setError e).alg = s.alg := rfl
@[simp] theorem State.setError_digits (s : State) (e : ErrCode) : (s.setError e).digits = s.digits := rfl
@[simp] theorem State.setError_ctrLo (s : State) (e : ErrCode) : (s.setError e).ctrLo = s.ctrLo := rfl
@[simp] theorem State.setError_ctrHi (s : State) (e : ErrCode) : (s.setError e).ctrHi = s.ctrHi := rfl
@[simp] theorem State.setError_nowLo (s : State) (e : ErrCode) : (s.setError e).nowLo = s.nowLo := rfl
@[simp] theorem State.setError_nowHi (s : State) (e : ErrCode) : (s.setError e).nowHi = s.nowHi := rfl
@[simp] theorem State.setError_t0Lo (s : State) (e : ErrCode) : (s.setError e).t0Lo = s.t0Lo := rfl
@[simp] theorem State.setError_t0Hi (s : State) (e : ErrCode) : (s.setError e).t0Hi = s.t0Hi := rfl
@[simp] theorem State.setError_stepLo (s : State) (e : ErrCode) : (s.setError e).stepLo = s.stepLo := rfl
@[simp] theorem State.setError_stepHi (s : State) (e : ErrCode) : (s.setError e).stepHi = s.stepHi := rfl
@[simp] theorem State.setError_busy (s : State) (e : ErrCode) : (s.setError e).busy = s.busy := rfl
@[simp] theorem State.setError_done (s : State) (e : ErrCode) : (s.setError e).done = s.done := rfl
@[simp] theorem State.setError_err (s : State) (e : ErrCode) : (s.setError e).err = true := rfl
@[simp] theorem State.setError_wrdrop (s : State) (e : ErrCode) : (s.setError e).wrdrop = s.wrdrop := rfl
@[simp] theorem State.setError_keyovf (s : State) (e : ErrCode) : (s.setError e).keyovf = s.keyovf := rfl
@[simp] theorem State.setError_phase (s : State) (e : ErrCode) : (s.setError e).phase = s.phase := rfl
@[simp] theorem State.setError_errcode (s : State) (e : ErrCode) : (s.setError e).errcode = e := rfl
@[simp] theorem State.setError_ien (s : State) (e : ErrCode) : (s.setError e).ien = s.ien := rfl
@[simp] theorem State.setError_keylen (s : State) (e : ErrCode) : (s.setError e).keylen = s.keylen := rfl
@[simp] theorem State.setError_key (s : State) (e : ErrCode) : (s.setError e).key = s.key := rfl
@[simp] theorem State.setError_results (s : State) (e : ErrCode) : (s.setError e).results = s.results := rfl
@[simp] theorem State.setError_scratch (s : State) (e : ErrCode) : (s.setError e).scratch = s.scratch := rfl
@[simp] theorem State.setError_pending (s : State) (e : ErrCode) : (s.setError e).pending = s.pending := rfl
@[simp] theorem State.setError_replies (s : State) (e : ErrCode) : (s.setError e).replies = s.replies := rfl

/-! ### errorCommit -/

@[simp] theorem State.errorCommit_alg (s : State) (e : ErrCode) : (s.errorCommit e).alg = s.alg := rfl
@[simp] theorem State.errorCommit_digits (s : State) (e : ErrCode) : (s.errorCommit e).digits = s.digits := rfl
@[simp] theorem State.errorCommit_ctrLo (s : State) (e : ErrCode) : (s.errorCommit e).ctrLo = s.ctrLo := rfl
@[simp] theorem State.errorCommit_ctrHi (s : State) (e : ErrCode) : (s.errorCommit e).ctrHi = s.ctrHi := rfl
@[simp] theorem State.errorCommit_nowLo (s : State) (e : ErrCode) : (s.errorCommit e).nowLo = s.nowLo := rfl
@[simp] theorem State.errorCommit_nowHi (s : State) (e : ErrCode) : (s.errorCommit e).nowHi = s.nowHi := rfl
@[simp] theorem State.errorCommit_t0Lo (s : State) (e : ErrCode) : (s.errorCommit e).t0Lo = s.t0Lo := rfl
@[simp] theorem State.errorCommit_t0Hi (s : State) (e : ErrCode) : (s.errorCommit e).t0Hi = s.t0Hi := rfl
@[simp] theorem State.errorCommit_stepLo (s : State) (e : ErrCode) : (s.errorCommit e).stepLo = s.stepLo := rfl
@[simp] theorem State.errorCommit_stepHi (s : State) (e : ErrCode) : (s.errorCommit e).stepHi = s.stepHi := rfl
@[simp] theorem State.errorCommit_busy (s : State) (e : ErrCode) : (s.errorCommit e).busy = false := rfl
@[simp] theorem State.errorCommit_done (s : State) (e : ErrCode) : (s.errorCommit e).done = s.done := rfl
@[simp] theorem State.errorCommit_err (s : State) (e : ErrCode) : (s.errorCommit e).err = true := rfl
@[simp] theorem State.errorCommit_wrdrop (s : State) (e : ErrCode) : (s.errorCommit e).wrdrop = s.wrdrop := rfl
@[simp] theorem State.errorCommit_keyovf (s : State) (e : ErrCode) : (s.errorCommit e).keyovf = s.keyovf := rfl
@[simp] theorem State.errorCommit_phase (s : State) (e : ErrCode) : (s.errorCommit e).phase = .idle := rfl
@[simp] theorem State.errorCommit_errcode (s : State) (e : ErrCode) : (s.errorCommit e).errcode = e := rfl
@[simp] theorem State.errorCommit_ien (s : State) (e : ErrCode) : (s.errorCommit e).ien = s.ien := rfl
@[simp] theorem State.errorCommit_keylen (s : State) (e : ErrCode) : (s.errorCommit e).keylen = s.keylen := rfl
@[simp] theorem State.errorCommit_key (s : State) (e : ErrCode) : (s.errorCommit e).key = s.key := rfl
@[simp] theorem State.errorCommit_results (s : State) (e : ErrCode) : (s.errorCommit e).results = s.results := rfl
@[simp] theorem State.errorCommit_scratch (s : State) (e : ErrCode) : (s.errorCommit e).scratch = Scratch.zero := rfl
@[simp] theorem State.errorCommit_pending (s : State) (e : ErrCode) : (s.errorCommit e).pending = s.pending := rfl
@[simp] theorem State.errorCommit_replies (s : State) (e : ErrCode) : (s.errorCommit e).replies = s.replies := rfl

/-! ### illegalCommand -/

@[simp] theorem State.illegalCommand_alg (s : State) : (s.illegalCommand).alg = s.alg := rfl
@[simp] theorem State.illegalCommand_digits (s : State) : (s.illegalCommand).digits = s.digits := rfl
@[simp] theorem State.illegalCommand_ctrLo (s : State) : (s.illegalCommand).ctrLo = s.ctrLo := rfl
@[simp] theorem State.illegalCommand_ctrHi (s : State) : (s.illegalCommand).ctrHi = s.ctrHi := rfl
@[simp] theorem State.illegalCommand_nowLo (s : State) : (s.illegalCommand).nowLo = s.nowLo := rfl
@[simp] theorem State.illegalCommand_nowHi (s : State) : (s.illegalCommand).nowHi = s.nowHi := rfl
@[simp] theorem State.illegalCommand_t0Lo (s : State) : (s.illegalCommand).t0Lo = s.t0Lo := rfl
@[simp] theorem State.illegalCommand_t0Hi (s : State) : (s.illegalCommand).t0Hi = s.t0Hi := rfl
@[simp] theorem State.illegalCommand_stepLo (s : State) : (s.illegalCommand).stepLo = s.stepLo := rfl
@[simp] theorem State.illegalCommand_stepHi (s : State) : (s.illegalCommand).stepHi = s.stepHi := rfl
@[simp] theorem State.illegalCommand_busy (s : State) : (s.illegalCommand).busy = s.busy := rfl
@[simp] theorem State.illegalCommand_done (s : State) : (s.illegalCommand).done = false := rfl
@[simp] theorem State.illegalCommand_err (s : State) : (s.illegalCommand).err = true := rfl
@[simp] theorem State.illegalCommand_wrdrop (s : State) : (s.illegalCommand).wrdrop = s.wrdrop := rfl
@[simp] theorem State.illegalCommand_keyovf (s : State) : (s.illegalCommand).keyovf = s.keyovf := rfl
@[simp] theorem State.illegalCommand_phase (s : State) : (s.illegalCommand).phase = s.phase := rfl
@[simp] theorem State.illegalCommand_errcode (s : State) : (s.illegalCommand).errcode = .illegalCommand := rfl
@[simp] theorem State.illegalCommand_ien (s : State) : (s.illegalCommand).ien = s.ien := rfl
@[simp] theorem State.illegalCommand_keylen (s : State) : (s.illegalCommand).keylen = s.keylen := rfl
@[simp] theorem State.illegalCommand_key (s : State) : (s.illegalCommand).key = s.key := rfl
@[simp] theorem State.illegalCommand_results (s : State) : (s.illegalCommand).results = Results.zero := rfl
@[simp] theorem State.illegalCommand_scratch (s : State) : (s.illegalCommand).scratch = s.scratch := rfl
@[simp] theorem State.illegalCommand_pending (s : State) : (s.illegalCommand).pending = s.pending := rfl
@[simp] theorem State.illegalCommand_replies (s : State) : (s.illegalCommand).replies = s.replies := rfl

/-! ### acknowledge -/

@[simp] theorem State.acknowledge_alg (s : State) : (s.acknowledge).alg = s.alg := rfl
@[simp] theorem State.acknowledge_digits (s : State) : (s.acknowledge).digits = s.digits := rfl
@[simp] theorem State.acknowledge_ctrLo (s : State) : (s.acknowledge).ctrLo = s.ctrLo := rfl
@[simp] theorem State.acknowledge_ctrHi (s : State) : (s.acknowledge).ctrHi = s.ctrHi := rfl
@[simp] theorem State.acknowledge_nowLo (s : State) : (s.acknowledge).nowLo = s.nowLo := rfl
@[simp] theorem State.acknowledge_nowHi (s : State) : (s.acknowledge).nowHi = s.nowHi := rfl
@[simp] theorem State.acknowledge_t0Lo (s : State) : (s.acknowledge).t0Lo = s.t0Lo := rfl
@[simp] theorem State.acknowledge_t0Hi (s : State) : (s.acknowledge).t0Hi = s.t0Hi := rfl
@[simp] theorem State.acknowledge_stepLo (s : State) : (s.acknowledge).stepLo = s.stepLo := rfl
@[simp] theorem State.acknowledge_stepHi (s : State) : (s.acknowledge).stepHi = s.stepHi := rfl
@[simp] theorem State.acknowledge_busy (s : State) : (s.acknowledge).busy = s.busy := rfl
@[simp] theorem State.acknowledge_done (s : State) : (s.acknowledge).done = false := rfl
@[simp] theorem State.acknowledge_err (s : State) : (s.acknowledge).err = false := rfl
@[simp] theorem State.acknowledge_wrdrop (s : State) : (s.acknowledge).wrdrop = false := rfl
@[simp] theorem State.acknowledge_keyovf (s : State) : (s.acknowledge).keyovf = s.keyovf := rfl
@[simp] theorem State.acknowledge_phase (s : State) : (s.acknowledge).phase = s.phase := rfl
@[simp] theorem State.acknowledge_errcode (s : State) : (s.acknowledge).errcode = .noError := rfl
@[simp] theorem State.acknowledge_ien (s : State) : (s.acknowledge).ien = s.ien := rfl
@[simp] theorem State.acknowledge_keylen (s : State) : (s.acknowledge).keylen = s.keylen := rfl
@[simp] theorem State.acknowledge_key (s : State) : (s.acknowledge).key = s.key := rfl
@[simp] theorem State.acknowledge_results (s : State) : (s.acknowledge).results = Results.zero := rfl
@[simp] theorem State.acknowledge_scratch (s : State) : (s.acknowledge).scratch = s.scratch := rfl
@[simp] theorem State.acknowledge_pending (s : State) : (s.acknowledge).pending = s.pending := rfl
@[simp] theorem State.acknowledge_replies (s : State) : (s.acknowledge).replies = s.replies := rfl

/-! ### clearKey -/

@[simp] theorem State.clearKey_alg (s : State) : (s.clearKey).alg = s.alg := rfl
@[simp] theorem State.clearKey_digits (s : State) : (s.clearKey).digits = s.digits := rfl
@[simp] theorem State.clearKey_ctrLo (s : State) : (s.clearKey).ctrLo = s.ctrLo := rfl
@[simp] theorem State.clearKey_ctrHi (s : State) : (s.clearKey).ctrHi = s.ctrHi := rfl
@[simp] theorem State.clearKey_nowLo (s : State) : (s.clearKey).nowLo = s.nowLo := rfl
@[simp] theorem State.clearKey_nowHi (s : State) : (s.clearKey).nowHi = s.nowHi := rfl
@[simp] theorem State.clearKey_t0Lo (s : State) : (s.clearKey).t0Lo = s.t0Lo := rfl
@[simp] theorem State.clearKey_t0Hi (s : State) : (s.clearKey).t0Hi = s.t0Hi := rfl
@[simp] theorem State.clearKey_stepLo (s : State) : (s.clearKey).stepLo = s.stepLo := rfl
@[simp] theorem State.clearKey_stepHi (s : State) : (s.clearKey).stepHi = s.stepHi := rfl
@[simp] theorem State.clearKey_busy (s : State) : (s.clearKey).busy = s.busy := rfl
@[simp] theorem State.clearKey_done (s : State) : (s.clearKey).done = s.done := rfl
@[simp] theorem State.clearKey_err (s : State) : (s.clearKey).err = s.err := rfl
@[simp] theorem State.clearKey_wrdrop (s : State) : (s.clearKey).wrdrop = s.wrdrop := rfl
@[simp] theorem State.clearKey_keyovf (s : State) : (s.clearKey).keyovf = false := rfl
@[simp] theorem State.clearKey_phase (s : State) : (s.clearKey).phase = s.phase := rfl
@[simp] theorem State.clearKey_errcode (s : State) : (s.clearKey).errcode = s.errcode := rfl
@[simp] theorem State.clearKey_ien (s : State) : (s.clearKey).ien = s.ien := rfl
@[simp] theorem State.clearKey_keylen (s : State) : (s.clearKey).keylen = 0 := rfl
@[simp] theorem State.clearKey_key (s : State) : (s.clearKey).key = [] := rfl
@[simp] theorem State.clearKey_results (s : State) : (s.clearKey).results = s.results := rfl
@[simp] theorem State.clearKey_scratch (s : State) : (s.clearKey).scratch = s.scratch := rfl
@[simp] theorem State.clearKey_pending (s : State) : (s.clearKey).pending = s.pending := rfl
@[simp] theorem State.clearKey_replies (s : State) : (s.clearKey).replies = s.replies := rfl

/-! ### reply -/

@[simp] theorem State.reply_alg (s : State) (v : Word) : (s.reply v).alg = s.alg := rfl
@[simp] theorem State.reply_digits (s : State) (v : Word) : (s.reply v).digits = s.digits := rfl
@[simp] theorem State.reply_ctrLo (s : State) (v : Word) : (s.reply v).ctrLo = s.ctrLo := rfl
@[simp] theorem State.reply_ctrHi (s : State) (v : Word) : (s.reply v).ctrHi = s.ctrHi := rfl
@[simp] theorem State.reply_nowLo (s : State) (v : Word) : (s.reply v).nowLo = s.nowLo := rfl
@[simp] theorem State.reply_nowHi (s : State) (v : Word) : (s.reply v).nowHi = s.nowHi := rfl
@[simp] theorem State.reply_t0Lo (s : State) (v : Word) : (s.reply v).t0Lo = s.t0Lo := rfl
@[simp] theorem State.reply_t0Hi (s : State) (v : Word) : (s.reply v).t0Hi = s.t0Hi := rfl
@[simp] theorem State.reply_stepLo (s : State) (v : Word) : (s.reply v).stepLo = s.stepLo := rfl
@[simp] theorem State.reply_stepHi (s : State) (v : Word) : (s.reply v).stepHi = s.stepHi := rfl
@[simp] theorem State.reply_busy (s : State) (v : Word) : (s.reply v).busy = s.busy := rfl
@[simp] theorem State.reply_done (s : State) (v : Word) : (s.reply v).done = s.done := rfl
@[simp] theorem State.reply_err (s : State) (v : Word) : (s.reply v).err = s.err := rfl
@[simp] theorem State.reply_wrdrop (s : State) (v : Word) : (s.reply v).wrdrop = s.wrdrop := rfl
@[simp] theorem State.reply_keyovf (s : State) (v : Word) : (s.reply v).keyovf = s.keyovf := rfl
@[simp] theorem State.reply_phase (s : State) (v : Word) : (s.reply v).phase = s.phase := rfl
@[simp] theorem State.reply_errcode (s : State) (v : Word) : (s.reply v).errcode = s.errcode := rfl
@[simp] theorem State.reply_ien (s : State) (v : Word) : (s.reply v).ien = s.ien := rfl
@[simp] theorem State.reply_keylen (s : State) (v : Word) : (s.reply v).keylen = s.keylen := rfl
@[simp] theorem State.reply_key (s : State) (v : Word) : (s.reply v).key = s.key := rfl
@[simp] theorem State.reply_results (s : State) (v : Word) : (s.reply v).results = s.results := rfl
@[simp] theorem State.reply_scratch (s : State) (v : Word) : (s.reply v).scratch = s.scratch := rfl
@[simp] theorem State.reply_pending (s : State) (v : Word) : (s.reply v).pending = s.pending := rfl
@[simp] theorem State.reply_replies (s : State) (v : Word) : (s.reply v).replies = v :: s.replies := rfl

/-! ### storeIen -/

@[simp] theorem State.storeIen_alg (s : State) (v : Word) : (s.storeIen v).alg = s.alg := rfl
@[simp] theorem State.storeIen_digits (s : State) (v : Word) : (s.storeIen v).digits = s.digits := rfl
@[simp] theorem State.storeIen_ctrLo (s : State) (v : Word) : (s.storeIen v).ctrLo = s.ctrLo := rfl
@[simp] theorem State.storeIen_ctrHi (s : State) (v : Word) : (s.storeIen v).ctrHi = s.ctrHi := rfl
@[simp] theorem State.storeIen_nowLo (s : State) (v : Word) : (s.storeIen v).nowLo = s.nowLo := rfl
@[simp] theorem State.storeIen_nowHi (s : State) (v : Word) : (s.storeIen v).nowHi = s.nowHi := rfl
@[simp] theorem State.storeIen_t0Lo (s : State) (v : Word) : (s.storeIen v).t0Lo = s.t0Lo := rfl
@[simp] theorem State.storeIen_t0Hi (s : State) (v : Word) : (s.storeIen v).t0Hi = s.t0Hi := rfl
@[simp] theorem State.storeIen_stepLo (s : State) (v : Word) : (s.storeIen v).stepLo = s.stepLo := rfl
@[simp] theorem State.storeIen_stepHi (s : State) (v : Word) : (s.storeIen v).stepHi = s.stepHi := rfl
@[simp] theorem State.storeIen_busy (s : State) (v : Word) : (s.storeIen v).busy = s.busy := rfl
@[simp] theorem State.storeIen_done (s : State) (v : Word) : (s.storeIen v).done = s.done := rfl
@[simp] theorem State.storeIen_err (s : State) (v : Word) : (s.storeIen v).err = s.err := rfl
@[simp] theorem State.storeIen_wrdrop (s : State) (v : Word) : (s.storeIen v).wrdrop = s.wrdrop := rfl
@[simp] theorem State.storeIen_keyovf (s : State) (v : Word) : (s.storeIen v).keyovf = s.keyovf := rfl
@[simp] theorem State.storeIen_phase (s : State) (v : Word) : (s.storeIen v).phase = s.phase := rfl
@[simp] theorem State.storeIen_errcode (s : State) (v : Word) : (s.storeIen v).errcode = s.errcode := rfl
@[simp] theorem State.storeIen_ien (s : State) (v : Word) : (s.storeIen v).ien = v.setWidth 2 := rfl
@[simp] theorem State.storeIen_keylen (s : State) (v : Word) : (s.storeIen v).keylen = s.keylen := rfl
@[simp] theorem State.storeIen_key (s : State) (v : Word) : (s.storeIen v).key = s.key := rfl
@[simp] theorem State.storeIen_results (s : State) (v : Word) : (s.storeIen v).results = s.results := rfl
@[simp] theorem State.storeIen_scratch (s : State) (v : Word) : (s.storeIen v).scratch = s.scratch := rfl
@[simp] theorem State.storeIen_pending (s : State) (v : Word) : (s.storeIen v).pending = s.pending := rfl
@[simp] theorem State.storeIen_replies (s : State) (v : Word) : (s.storeIen v).replies = s.replies := rfl

/-! ### withPending -/

@[simp] theorem State.withPending_alg (s : State) (es : List Event) : (s.withPending es).alg = s.alg := rfl
@[simp] theorem State.withPending_digits (s : State) (es : List Event) : (s.withPending es).digits = s.digits := rfl
@[simp] theorem State.withPending_ctrLo (s : State) (es : List Event) : (s.withPending es).ctrLo = s.ctrLo := rfl
@[simp] theorem State.withPending_ctrHi (s : State) (es : List Event) : (s.withPending es).ctrHi = s.ctrHi := rfl
@[simp] theorem State.withPending_nowLo (s : State) (es : List Event) : (s.withPending es).nowLo = s.nowLo := rfl
@[simp] theorem State.withPending_nowHi (s : State) (es : List Event) : (s.withPending es).nowHi = s.nowHi := rfl
@[simp] theorem State.withPending_t0Lo (s : State) (es : List Event) : (s.withPending es).t0Lo = s.t0Lo := rfl
@[simp] theorem State.withPending_t0Hi (s : State) (es : List Event) : (s.withPending es).t0Hi = s.t0Hi := rfl
@[simp] theorem State.withPending_stepLo (s : State) (es : List Event) : (s.withPending es).stepLo = s.stepLo := rfl
@[simp] theorem State.withPending_stepHi (s : State) (es : List Event) : (s.withPending es).stepHi = s.stepHi := rfl
@[simp] theorem State.withPending_busy (s : State) (es : List Event) : (s.withPending es).busy = s.busy := rfl
@[simp] theorem State.withPending_done (s : State) (es : List Event) : (s.withPending es).done = s.done := rfl
@[simp] theorem State.withPending_err (s : State) (es : List Event) : (s.withPending es).err = s.err := rfl
@[simp] theorem State.withPending_wrdrop (s : State) (es : List Event) : (s.withPending es).wrdrop = s.wrdrop := rfl
@[simp] theorem State.withPending_keyovf (s : State) (es : List Event) : (s.withPending es).keyovf = s.keyovf := rfl
@[simp] theorem State.withPending_phase (s : State) (es : List Event) : (s.withPending es).phase = s.phase := rfl
@[simp] theorem State.withPending_errcode (s : State) (es : List Event) :
    (s.withPending es).errcode = s.errcode := rfl
@[simp] theorem State.withPending_ien (s : State) (es : List Event) : (s.withPending es).ien = s.ien := rfl
@[simp] theorem State.withPending_keylen (s : State) (es : List Event) : (s.withPending es).keylen = s.keylen := rfl
@[simp] theorem State.withPending_key (s : State) (es : List Event) : (s.withPending es).key = s.key := rfl
@[simp] theorem State.withPending_results (s : State) (es : List Event) :
    (s.withPending es).results = s.results := rfl
@[simp] theorem State.withPending_scratch (s : State) (es : List Event) :
    (s.withPending es).scratch = s.scratch := rfl
@[simp] theorem State.withPending_pending (s : State) (es : List Event) : (s.withPending es).pending = es := rfl
@[simp] theorem State.withPending_replies (s : State) (es : List Event) :
    (s.withPending es).replies = s.replies := rfl

/-! ### hardReset -/

@[simp] theorem State.hardReset_alg (s : State) : (s.hardReset).alg = 0 := rfl
@[simp] theorem State.hardReset_digits (s : State) : (s.hardReset).digits = 0 := rfl
@[simp] theorem State.hardReset_ctrLo (s : State) : (s.hardReset).ctrLo = 0 := rfl
@[simp] theorem State.hardReset_ctrHi (s : State) : (s.hardReset).ctrHi = 0 := rfl
@[simp] theorem State.hardReset_nowLo (s : State) : (s.hardReset).nowLo = 0 := rfl
@[simp] theorem State.hardReset_nowHi (s : State) : (s.hardReset).nowHi = 0 := rfl
@[simp] theorem State.hardReset_t0Lo (s : State) : (s.hardReset).t0Lo = 0 := rfl
@[simp] theorem State.hardReset_t0Hi (s : State) : (s.hardReset).t0Hi = 0 := rfl
@[simp] theorem State.hardReset_stepLo (s : State) : (s.hardReset).stepLo = 30 := rfl
@[simp] theorem State.hardReset_stepHi (s : State) : (s.hardReset).stepHi = 0 := rfl
@[simp] theorem State.hardReset_busy (s : State) : (s.hardReset).busy = false := rfl
@[simp] theorem State.hardReset_done (s : State) : (s.hardReset).done = false := rfl
@[simp] theorem State.hardReset_err (s : State) : (s.hardReset).err = false := rfl
@[simp] theorem State.hardReset_wrdrop (s : State) : (s.hardReset).wrdrop = false := rfl
@[simp] theorem State.hardReset_keyovf (s : State) : (s.hardReset).keyovf = false := rfl
@[simp] theorem State.hardReset_phase (s : State) : (s.hardReset).phase = .idle := rfl
@[simp] theorem State.hardReset_errcode (s : State) : (s.hardReset).errcode = .noError := rfl
@[simp] theorem State.hardReset_ien (s : State) : (s.hardReset).ien = 0 := rfl
@[simp] theorem State.hardReset_keylen (s : State) : (s.hardReset).keylen = 0 := rfl
@[simp] theorem State.hardReset_key (s : State) : (s.hardReset).key = [] := rfl
@[simp] theorem State.hardReset_results (s : State) : (s.hardReset).results = Results.zero := rfl
@[simp] theorem State.hardReset_scratch (s : State) : (s.hardReset).scratch = Scratch.zero := rfl
@[simp] theorem State.hardReset_pending (s : State) : (s.hardReset).pending = s.pending := rfl
@[simp] theorem State.hardReset_replies (s : State) : (s.hardReset).replies = s.replies := rfl

/-! ### softReset -/

@[simp] theorem State.softReset_alg (s : State) : (s.softReset).alg = 0 := rfl
@[simp] theorem State.softReset_digits (s : State) : (s.softReset).digits = 0 := rfl
@[simp] theorem State.softReset_ctrLo (s : State) : (s.softReset).ctrLo = 0 := rfl
@[simp] theorem State.softReset_ctrHi (s : State) : (s.softReset).ctrHi = 0 := rfl
@[simp] theorem State.softReset_nowLo (s : State) : (s.softReset).nowLo = 0 := rfl
@[simp] theorem State.softReset_nowHi (s : State) : (s.softReset).nowHi = 0 := rfl
@[simp] theorem State.softReset_t0Lo (s : State) : (s.softReset).t0Lo = 0 := rfl
@[simp] theorem State.softReset_t0Hi (s : State) : (s.softReset).t0Hi = 0 := rfl
@[simp] theorem State.softReset_stepLo (s : State) : (s.softReset).stepLo = 30 := rfl
@[simp] theorem State.softReset_stepHi (s : State) : (s.softReset).stepHi = 0 := rfl
@[simp] theorem State.softReset_busy (s : State) : (s.softReset).busy = false := rfl
@[simp] theorem State.softReset_done (s : State) : (s.softReset).done = false := rfl
@[simp] theorem State.softReset_err (s : State) : (s.softReset).err = false := rfl
@[simp] theorem State.softReset_wrdrop (s : State) : (s.softReset).wrdrop = false := rfl
@[simp] theorem State.softReset_keyovf (s : State) : (s.softReset).keyovf = false := rfl
@[simp] theorem State.softReset_phase (s : State) : (s.softReset).phase = .idle := rfl
@[simp] theorem State.softReset_errcode (s : State) : (s.softReset).errcode = .noError := rfl
@[simp] theorem State.softReset_ien (s : State) : (s.softReset).ien = s.ien := rfl
@[simp] theorem State.softReset_keylen (s : State) : (s.softReset).keylen = 0 := rfl
@[simp] theorem State.softReset_key (s : State) : (s.softReset).key = [] := rfl
@[simp] theorem State.softReset_results (s : State) : (s.softReset).results = Results.zero := rfl
@[simp] theorem State.softReset_scratch (s : State) : (s.softReset).scratch = Scratch.zero := rfl
@[simp] theorem State.softReset_pending (s : State) : (s.softReset).pending = s.pending := rfl
@[simp] theorem State.softReset_replies (s : State) : (s.softReset).replies = s.replies := rfl

end Sys2Proof.Machine
end

