-- ==== Sys2Proof/Laws/Ops.lean ====
section
/-! SUPPORT. What each shared operation can do, once: if it answers a next state, then one of these cases holds. Proofs cite
these instead of unfolding the operations. -/

namespace Sys2Proof.Machine

variable {s t : State}

/-- A write taken only while idle is dropped while busy. -/
theorem whenIdle_busy (r : Result) (h : s.busy = true) : whenIdle s r = .next s.dropWrite := by simp [whenIdle, h]

/-- A write taken only while idle is taken while idle. -/
theorem whenIdle_idle (r : Result) (h : s.busy = false) : whenIdle s r = r := by simp [whenIdle, h]

theorem whenIdle_cases {r : Result} (h : whenIdle s r = .next t) :
    (s.busy = true ∧ t = s.dropWrite) ∨ (s.busy = false ∧ r = .next t) := by
  cases hb : s.busy
  · exact .inr ⟨rfl, by rwa [whenIdle_idle _ hb] at h⟩
  · rw [whenIdle_busy _ hb] at h
    cases h
    exact .inl ⟨rfl, rfl⟩

/-- What KEYB's effect can be (R122, R123). -/
theorem appendKey_cases {b : Byte} (h : s.appendKey b = .next t) :
    (s.keyovf = true ∧ t = s) ∨
    (s.keyovf = false ∧ s.keylen.toNat = Config.keyMax ∧ t = { s with keyovf := true }) ∨
    (s.keyovf = false ∧ s.keylen.toNat < Config.keyMax ∧
      t = { s with key := s.key.write s.keylen.toNat b, keylen := s.keylen + 1 }) := by
  unfold State.appendKey at h
  split at h
  · rename_i ho
    cases h
    exact .inl ⟨ho, rfl⟩
  · rename_i ho
    have ho : s.keyovf = false := by simpa using ho
    split at h
    · rename_i hk
      cases h
      exact .inr (.inl ⟨ho, hk, rfl⟩)
    · split at h
      · rename_i hk
        cases h
        exact .inr (.inr ⟨ho, hk, rfl⟩)
      · cases h

/-- What a command can do (R100, R120 to R132, R231, R232). -/
theorem exec_cases {i : Instr} (h : exec i s = .next t) :
    (i = .srst ∧ t = s.softReset) ∨
    (i ≠ .srst ∧ s.busy = true ∧ t = s.dropWrite) ∨
    (s.busy = false ∧
      ((i = .nop ∧ t = s) ∨ (i = .keyclr ∧ t = s.clearKey) ∨ (∃ b, i = .keyb b ∧ s.appendKey b = .next t) ∨
        (i = .genh ∧ t = s.accept .genh) ∨ (i = .gent ∧ t = s.accept .gent) ∨ (i = .ack ∧ t = s.acknowledge))) := by
  cases i with
  | nop => rcases whenIdle_cases h with ⟨hb, rfl⟩ | ⟨hb, h⟩ <;> simp_all
  | keyclr => rcases whenIdle_cases h with ⟨hb, rfl⟩ | ⟨hb, h⟩ <;> simp_all
  | keyb b => rcases whenIdle_cases h with ⟨hb, rfl⟩ | ⟨hb, h⟩ <;> simp_all
  | genh => rcases whenIdle_cases h with ⟨hb, rfl⟩ | ⟨hb, h⟩ <;> simp_all
  | gent => rcases whenIdle_cases h with ⟨hb, rfl⟩ | ⟨hb, h⟩ <;> simp_all
  | ack => rcases whenIdle_cases h with ⟨hb, rfl⟩ | ⟨hb, h⟩ <;> simp_all
  | srst =>
    cases h
    exact .inl ⟨rfl, rfl⟩

/-- What a word written to CMD can do (R100, R252). -/
theorem execCommand_cases {w : Word} (h : execCommand w s = .next t) :
    (∃ i, decode w = .ok i ∧ exec i s = .next t) ∨
    (∃ e, decode w = .error e ∧
      ((s.busy = true ∧ t = s.dropWrite) ∨ (s.busy = false ∧ t = s.illegalCommand))) := by
  unfold execCommand at h
  split at h
  · rename_i i hd
    exact .inl ⟨i, hd, h⟩
  · rename_i e hd
    refine .inr ⟨e, hd, ?_⟩
    rcases whenIdle_cases h with ⟨hb, rfl⟩ | ⟨hb, h⟩
    · exact .inl ⟨hb, rfl⟩
    · cases h
      exact .inr ⟨hb, rfl⟩

/-- What a host write can do (R73). -/
theorem regWrite_cases {i : Fin 64} {v : Word} (h : regWrite i v s = .next t) :
    (regAt i = some .cmd ∧ execCommand v s = .next t) ∨
    (regAt i = some .ien ∧ t = s.storeIen v) ∨
    (∃ r, regAt i = some r ∧ isOperand r = true ∧
      ((s.busy = true ∧ t = s.dropWrite) ∨ (s.busy = false ∧ t = s.storeOperand r v))) ∨
    t = s := by
  unfold regWrite at h
  split at h
  · exact .inl ⟨by assumption, h⟩
  · cases h
    exact .inr (.inl ⟨by assumption, rfl⟩)
  · rename_i r _ _ hr
    split at h
    · rename_i ho
      refine .inr (.inr (.inl ⟨r, hr, ho, ?_⟩))
      rcases whenIdle_cases h with ⟨hb, rfl⟩ | ⟨hb, h⟩
      · exact .inl ⟨hb, rfl⟩
      · cases h
        exact .inr ⟨hb, rfl⟩
    · cases h
      exact .inr (.inr (.inr rfl))
  · cases h
    exact .inr (.inr (.inr rfl))

/-- A selector's unit answers only where ALG selects an algorithm. -/
theorem withHash_cases {k : HashAlg → State} (h : withHash s k = .next t) :
    ∃ a, selectHash s.alg = some a ∧ t = k a := by
  unfold withHash at h
  split at h
  · cases h
  · rename_i a ha
    cases h
    exact ⟨a, ha, rfl⟩

/-- What a Core step can do (R134 to R143). -/
theorem coreStep_cases (h : coreStep s = .next t) :
    ((s.busy = false ∨ s.phase = .idle) ∧ t = s) ∨
    (s.busy = true ∧ s.phase = .check ∧ checkErrors s.scratch.op s = .noError ∧ t = { s with phase := .mfsel }) ∨
    (s.busy = true ∧ s.phase = .check ∧ checkErrors s.scratch.op s ≠ .noError ∧
      t = s.errorCommit (checkErrors s.scratch.op s)) ∨
    (s.busy = true ∧ s.phase ≠ .idle ∧ s.phase ≠ .check ∧ s.phase ≠ .commit ∧
      ∃ sc : Scratch, sc.op = s.scratch.op ∧ t = { s with scratch := sc, phase := nextPhase s.phase }) ∨
    (s.busy = true ∧ s.phase = .commit ∧ ∃ a, selectHash s.alg = some a ∧
      t = { s.clearScratch with results := committedResults a s, done := true, busy := false, phase := .idle }) := by
  unfold coreStep at h
  by_cases hb : s.busy = true
  · rw [if_pos hb] at h
    obtain ⟨p, hp⟩ : ∃ p, s.phase = p := ⟨_, rfl⟩
    have advance : ∀ sc : Scratch, t = { s with scratch := sc, phase := nextPhase p } →
        sc.op = s.scratch.op → p ≠ .idle → p ≠ .check → p ≠ .commit →
        (s.busy = true ∧ s.phase ≠ .idle ∧ s.phase ≠ .check ∧ s.phase ≠ .commit ∧
          ∃ sc : Scratch, sc.op = s.scratch.op ∧ t = { s with scratch := sc, phase := nextPhase s.phase }) := by
      intro sc ht hop h1 h2 h3
      subst hp
      exact ⟨hb, h1, h2, h3, sc, hop, ht⟩
    cases p <;> simp only [hp] at h
    case idle => cases h; exact .inl ⟨.inr hp, rfl⟩
    case check =>
      unfold phaseCheck at h
      split at h
      · rename_i he
        cases h
        exact .inr (.inl ⟨hb, hp, he, rfl⟩)
      · rename_i he
        cases h
        exact .inr (.inr (.inl ⟨hb, hp, he, rfl⟩))
    case mfsel =>
      unfold phaseMfsel at h
      split at h
      · cases h
      · cases h
        exact .inr (.inr (.inr (.inl (advance _ rfl rfl nofun nofun nofun))))
    case encode =>
      cases h
      exact .inr (.inr (.inr (.inl (advance _ rfl rfl nofun nofun nofun))))
    case reduce =>
      unfold phaseReduce at h
      split at h
      · cases h
      · cases h
        exact .inr (.inr (.inr (.inl (advance _ rfl rfl nofun nofun nofun))))
    case format =>
      unfold phaseFormat at h
      split at h
      · cases h
      · cases h
        exact .inr (.inr (.inr (.inl (advance _ rfl rfl nofun nofun nofun))))
    case commit =>
      obtain ⟨a, ha, rfl⟩ := withHash_cases h
      exact .inr (.inr (.inr (.inr ⟨hb, hp, a, ha, rfl⟩)))
    all_goals
      obtain ⟨a, -, ht⟩ := withHash_cases h
      exact .inr (.inr (.inr (.inl (advance _ ht rfl nofun nofun nofun))))
  · rw [if_neg hb] at h
    cases h
    exact .inl ⟨.inl (by simpa using hb), rfl⟩

/-- What one event can do (R85). -/
theorem runEvent_cases {e : Event} (h : runEvent e s = .next t) :
    (∃ i, e = .regRead i ∧ t = s.reply (regRead i s)) ∨
    (∃ i v, e = .regWrite i v ∧ regWrite i v s = .next t) ∨
    (e = .core ∧ coreStep s = .next t) ∨ (e = .reset ∧ t = s.hardReset) ∨
    (e = .wait ∧ s.busy = true ∧ t = { s.reply s.statusWord with pending := .core :: .wait :: s.pending }) ∨
    (e = .wait ∧ s.busy = false ∧ t = s.reply s.statusWord) := by
  cases e with
  | regRead i => cases h; simp
  | regWrite i v => simp_all [runEvent]
  | core => simp_all [runEvent]
  | reset => cases h; simp
  | wait =>
    simp only [runEvent, waitPoll] at h
    split at h
    · rename_i hb
      cases h
      simp [hb]
    · rename_i hb
      cases h
      simp [hb]

/-- What a step can do: one event, or the Core alone when none is pending (R85, R144). -/
theorem step_cases (h : step s = .next t) :
    (∃ e rest, s.pending = e :: rest ∧ runEvent e (s.withPending rest) = .next t) ∨
    (s.pending = [] ∧ coreStep s = .next t) := by
  unfold step nextStep at h
  split at h
  · rename_i e rest hp
    exact .inl ⟨e, rest, hp, h⟩
  · rename_i hp
    exact .inr ⟨hp, h⟩

/-- A step from a state with an event pending. -/
theorem step_event {e : Event} {rest : List Event} (h : s.pending = e :: rest) :
    step s = runEvent e (s.withPending rest) := by simp [step, nextStep, h]

/-- A step with nothing pending is the Core's. -/
theorem step_core (h : s.pending = []) : step s = coreStep s := by simp [step, nextStep, h]

/-- A transaction is the last event to come. -/
@[simp] theorem State.access_transaction (e : Event) :
    s.access (some (.transaction e)) = { s with pending := s.pending ++ [e] } := rfl

/-- A rejected access changes no state (R77). -/
@[simp] theorem State.access_rejected (d : Option Word) : s.access (some (.rejected d)) = s := rfl

/-- Neither does one outside the window (R80). -/
@[simp] theorem State.access_none : s.access none = s := rfl

end Sys2Proof.Machine
end

