-- ==== Sys2Proof/Laws/PerInstr.lean ====
section
/-! SUPPORT. What holds of every instruction as syntax, one lemma per constructor: family `Encoding`. -/

namespace Sys2Proof.Laws.Encoding

/-- The instruction's word is legal by its format (R101, R105), matches the instruction's own row of the opcode table
(R103), and carries the row's pattern outside the operand field. -/
def Statement (i : Instr) : Prop :=
  wordWellFormed (encode i) = true ∧ rowMatches (rowOf i) (encode i) = true ∧
    encode i &&& 0xFFFF00FF#32 = (rowOf i).pattern

theorem nop : Statement .nop := by unfold Statement; decide

theorem keyclr : Statement .keyclr := by unfold Statement; decide

theorem keyb (imm8 : Byte) : Statement (.keyb imm8) := by
  revert imm8
  unfold Statement
  decide

theorem genh : Statement .genh := by unfold Statement; decide

theorem gent : Statement .gent := by unfold Statement; decide

theorem ack : Statement .ack := by unfold Statement; decide

theorem srst : Statement .srst := by unfold Statement; decide

end Sys2Proof.Laws.Encoding
end

