-- ==== Sys2Proof/Laws/Sequencer.lean ====
section
/-! SUPPORT. Where each unit and each command is defined, and how runs of the Core and of the machine are taken apart one
step at a time. -/

namespace Sys2Proof.Machine

variable {s t : State}

/-- What CHECK has established when it finds no error (R135, R250). -/
theorem checkErrors_noError {op : GenOp} (h : checkErrors op s = .noError) :
    1 ≤ s.digits.toNat ∧ s.digits.toNat ≤ 8 ∧ s.alg.toNat ≤ 2 ∧
      (op = .gent → s.stepSeconds ≠ 0 ∧ ¬ s.now < s.t0) ∧ s.keyovf = false ∧ s.keylen ≠ 0 := by
  unfold checkErrors at h
  split at h; · cases h
  split at h; · cases h
  split at h; · cases h
  split at h; · cases h
  split at h; · cases h
  split at h; · cases h
  rename_i h1 h2 h3 h4 h5 h6
  exact ⟨by omega, by omega, by omega, fun ho => ⟨fun hz => h2 ⟨ho, hz⟩, fun hz => h3 ⟨ho, hz⟩⟩, by simpa using h5, h6⟩

/-- The selector's choice for ALG 0 to 2 (R160). -/
theorem selectHash_of_le {alg : Word} (h : alg.toNat ≤ 2) : ∃ a, selectHash alg = some a :=
  Option.isSome_iff_exists.1 ((selectHash_isSome alg).2 h)

/-- A unit behind the selector, once the algorithm is known. -/
theorem withHash_some {a : HashAlg} {k : HashAlg → State} (h : selectHash s.alg = some a) :
    withHash s k = .next (k a) := by simp [withHash, h]

/-- Past CHECK there is a moving factor (R136, R221). -/
theorem movingFactor_of {op : GenOp} (h : op = .gent → s.stepSeconds ≠ 0 ∧ ¬ s.now < s.t0) :
    ∃ mf, s.movingFactor op = some mf := by
  cases op with
  | genh => exact ⟨_, rfl⟩
  | gent =>
    obtain ⟨h1, h2⟩ := h rfl
    exact ⟨_, by simp only [State.movingFactor, timeStep]; rw [if_neg (by tauto)]⟩

/-- The table of powers of ten (R210). -/
theorem pow10_of_le {d : Nat} (h : d ≤ 8) : pow10 d = some (10 ^ d) := by
  interval_cases d <;> rfl

theorem reduceCode_of_le {p : BitVec 31} {d : Nat} (h : d ≤ 8) :
    reduceCode p d = some (BitVec.ofNat 27 (p.toNat % 10 ^ d)) := by simp [reduceCode, pow10_of_le h]

theorem formatCode_of_le {c : BitVec 27} {d : Nat} (h : d ≤ 8) :
    formatCode c d = some ((List.range d).map (digitChar c.toNat d)) := by simp [formatCode, h]

/-- With room for it, KEYB's byte is stored (R122). -/
theorem appendKey_room (b : Byte) (ho : s.keyovf = false) (hl : s.keylen.toNat < Config.keyMax) :
    s.appendKey b = .next { s with key := s.key.write s.keylen.toNat b, keylen := s.keylen + 1 } := by
  unfold State.appendKey
  rw [if_neg (by simp [ho]), if_neg (by omega), if_pos hl]

/-- With the key memory full, KEYB raises KEYOVF (R123). -/
theorem appendKey_full (b : Byte) (ho : s.keyovf = false) (hl : s.keylen.toNat = Config.keyMax) :
    s.appendKey b = .next { s with keyovf := true } := by
  unfold State.appendKey
  rw [if_neg (by simp [ho]), if_pos hl]

/-- After an overflow KEYB does nothing (R123). -/
theorem appendKey_overflowed (b : Byte) (ho : s.keyovf = true) : s.appendKey b = .next s := if_pos ho

/-- KEYLEN does not wrap, since KEY_MAX fits a word (R8). -/
theorem keylen_succ (hl : s.keylen.toNat < Config.keyMax) : (s.keylen + 1).toNat = s.keylen.toNat + 1 := by
  have := Config.keyMax_lt
  simp
  omega

/-- The Core's step while busy is the function of the phase (R134). -/
theorem coreStep_busy (h : s.busy = true) :
    coreStep s =
      match s.phase with
      | .idle => .next s
      | .check => phaseCheck s
      | .mfsel => phaseMfsel s
      | .encode => phaseEncode s
      | .keyprep => phaseKeyprep s
      | .inner => phaseInner s
      | .outer => phaseOuter s
      | .trunc => phaseTrunc s
      | .reduce => phaseReduce s
      | .format => phaseFormat s
      | .commit => phaseCommit s := if_pos h

/-- The first of n + 1 Core steps. -/
theorem coreRun_succ {n : Nat} (h : coreStep s = .next t) : coreRun (n + 1) s = coreRun n t := by simp only [coreRun, h]

/-- The last of n + 1 Core steps. -/
theorem coreRun_last {n : Nat} (h : coreRun n s = .next t) : coreRun (n + 1) s = coreStep t := by
  induction n generalizing s with
  | zero =>
    cases h
    simp only [coreRun]
    cases coreStep t <;> rfl
  | succ n ih =>
    cases hc : coreStep s with
    | next u =>
      rw [coreRun_succ hc] at h ⊢
      exact ih h
    | fault f => simp [coreRun, hc] at h
    | refused f => simp [coreRun, hc] at h

/-- The first of n + 1 steps of the machine. -/
theorem run_succ {n : Nat} (h : step s = .next t) : Host.Core.run core (n + 1) s = Host.Core.run core n t := by
  have : core.step s = .next t := h
  simp only [Host.Core.run, this]

/-- The register of an index is the register the index was made from. -/
theorem regAt_regIndex (r : Reg) : regAt (regIndex r) = some r := by
  cases r with
  | mac i => revert i; decide
  | _ => rfl

theorem eq_cmd_of_regAt {i : Fin 64} (h : regAt i = some .cmd) : i = regIndex .cmd := by revert i; decide

theorem eq_ien_of_regAt {i : Fin 64} (h : regAt i = some .ien) : i = regIndex .ien := by revert i; decide

end Sys2Proof.Machine
end

