-- ==== Sys2Proof/Tests/Slice0.lean ====
section
/-! SUPPORT. Tests. The words are written out from the encodings of 30_encoding.md, the values from the worked examples and
vectors of spec/; then one witness for each obligation that has hypotheses. -/

namespace Sys2Proof.Tests

open Sys2Proof.Machine

/-! ### Well-formedness: each check refuses a word of its own (R105) -/

theorem test_opcodeAssigned_refuses : opcodeAssigned 0x00000007 = false ∧ opcodeAssigned 0x000000FF = false ∧
    wordWellFormed 0x00000007 = false := by decide

theorem test_formatNClear_refuses : formatNClear 0x00000100 = false ∧ opcodeAssigned 0x00000100 = true ∧
    wordWellFormed 0x00000100 = false := by decide

theorem test_formatBClear_refuses : formatBClear 0x00013102 = false ∧ opcodeAssigned 0x00013102 = true ∧
    formatNClear 0x00013102 = true ∧ wordWellFormed 0x00013102 = false := by decide

theorem test_wellFormed_accepts : wordWellFormed 0x00003102 = true ∧ wordWellFormed 0x00000006 = true := by decide

/-! ### Decoding: words written out bit by bit from R101 and R103 -/

theorem test_decode_nop : decode 0b00000000000000000000000000000000#32 = .ok .nop := by decide

theorem test_decode_keyclr : decode 0b00000000000000000000000000000001#32 = .ok .keyclr := by decide

/-- 16 zero bits, the byte 0x31, opcode 0x02 (R103). -/
theorem test_decode_keyb : decode 0b00000000000000000011000100000010#32 = .ok (.keyb 0x31) := by decide

theorem test_decode_keyb_top : decode 0b00000000000000001111111100000010#32 = .ok (.keyb 0xFF) := by decide

theorem test_decode_genh : decode 0b00000000000000000000000000000011#32 = .ok .genh := by decide

theorem test_decode_gent : decode 0b00000000000000000000000000000100#32 = .ok .gent := by decide

theorem test_decode_ack : decode 0b00000000000000000000000000000101#32 = .ok .ack := by decide

theorem test_decode_srst : decode 0b00000000000000000000000000000110#32 = .ok .srst := by decide

/-- R105: the illegal words it names. -/
theorem test_decode_illegal : decode 0x00000007 = .error .reservedOpcode ∧ decode 0x80000003 = .error .formatNBits ∧
    decode 0x00013102 = .error .formatBBits ∧ decode 0xFFFFFFFF = .error .reservedOpcode := by decide

/-- The opcode table's numbering: bit 0 is the least significant bit of the word. -/
theorem test_decodeTableWord : decodeTableWord 32 0x00003102 = some (.keyb 0x31) ∧ decodeTableWord 32 6 = some .srst ∧
    decodeTableWord 32 7 = none := by decide

/-! ### The units: the worked examples of 42 to 47 -/

/-- The MAC of R164 and R204, source vector 1. -/
def macOne : List Byte :=
  [0x75, 0xa4, 0x8a, 0x19, 0xd4, 0xcb, 0xe1, 0x00, 0x64, 0x4e, 0x8a, 0xc1, 0x39, 0x7e, 0xea, 0x74, 0x7a, 0x2d, 0x33, 0xab]

/-- The 20 bytes of ASCII "12345678901234567890" (R164). -/
def keyOne : List Byte :=
  [0x31, 0x32, 0x33, 0x34, 0x35, 0x36, 0x37, 0x38, 0x39, 0x30, 0x31, 0x32, 0x33, 0x34, 0x35, 0x36, 0x37, 0x38, 0x39, 0x30]

/-- R150. -/
theorem test_enc64 : enc64 0x0123456789ABCDEF = [0x01, 0x23, 0x45, 0x67, 0x89, 0xAB, 0xCD, 0xEF] := by decide

/-- R204. -/
theorem test_trunc : (trunc macOne).1 = 11 ∧ (trunc macOne).2.toNat = 1094287082 := by decide

/-- R211, R212. -/
theorem test_reduce : (reduceCode 1094287082 8).map (·.toNat) = some 94287082 ∧
    (reduceCode 1094287082 1).map (·.toNat) = some 2 ∧ (reduceCode 2147483647 8).map (·.toNat) = some 47483647 ∧
    reduceCode 5 9 = none := by decide

/-- R214. -/
theorem test_format : formatCode 7081804 8 = some [0x30, 0x37, 0x30, 0x38, 0x31, 0x38, 0x30, 0x34] := by decide

/-- R221, R224. -/
theorem test_timeStep : timeStep 59 0 30 = some 1 ∧ timeStep 60 0 30 = some 2 ∧
    timeStep 20000000000 0 30 = some 0x27BC86AA ∧ timeStep 29 30 30 = none ∧ timeStep 1 0 0 = none := by decide

set_option maxRecDepth 100000 in
/-- SHA1("abc") (R176). -/
theorem test_sha1_abc :
    bytesVal (sha1 [0x61, 0x62, 0x63]) = 0xa9993e364706816aba3e25717850c26c9cd0d89d := by decide

set_option maxRecDepth 100000 in
/-- SHA256("abc") (R182). -/
theorem test_sha256_abc : bytesVal (sha256 [0x61, 0x62, 0x63]) =
    0xba7816bf8f01cfea414140de5dae2223b00361a396177a9cb410ff61f20015ad := by decide

set_option maxRecDepth 100000 in
/-- SHA512("abc") (R189). -/
theorem test_sha512_abc : bytesVal (sha512 [0x61, 0x62, 0x63]) =
    0xddaf35a193617abacc417349ae20413112e6fa4e89a97ea20a9eeee64b55d39a2192992a274fc1a836ba3c23a3feebbd454d4423643ce80e2a9ac94fa54ca49f := by
  decide

set_option maxRecDepth 100000 in
/-- R164: the worked MAC. -/
theorem test_hmac_sha1 : hmac .sha1 keyOne [0, 0, 0, 0, 0, 0, 0, 1] = macOne := by decide

/-! ### One step on a small state -/

/-- An idle state ready for a GENH: the one-byte key 0x61, 6 digits, SHA-1. -/
def ready : State := { State.reset with digits := 6, keylen := 1, key := [(0, 0x61)], ctrLo := 1, nowLo := 59 }

/-- The reset state with the given events to come. -/
def resetWith (es : List Event) : State := { State.reset with pending := es }

/-- A busy state, in CHECK, whose operands are valid. -/
def inFlight : State := ready.accept .genh

/-- A busy state, in CHECK, whose digit count is 0. -/
def failing : State := State.reset.accept .genh

/-- An idle state whose key memory is full: KEYLEN = KEY_MAX, every byte 0x00. -/
def full : State := { State.reset with keylen := BitVec.ofNat 32 Config.keyMax }

/-- R121: the key goes, and nothing else. -/
theorem test_keyclr_step : step (ready.withFetchWord 32 0x01) = .next { ready with keylen := 0, key := [] } := by rfl

/-- R122: the first byte lands at address 0 and KEYLEN becomes 1. -/
theorem test_keyb_step :
    step (State.reset.withFetchWord 32 0x3102) = .next { State.reset with key := [(0, 0x31)], keylen := 1 } := by rfl

/-- R122: a zero byte counts, and leaves the memory reading 0x00 there. -/
theorem test_keyb_zero_step : step (State.reset.withFetchWord 32 0x0002) = .next { State.reset with keylen := 1 } := by rfl

/-- R120. -/
theorem test_nop_step : step (ready.withFetchWord 32 0) = .next ready := by rfl

/-- R132: BUSY, PHASE 1 and s_op after GENH. -/
theorem test_genh_step : step (ready.withFetchWord 32 3) = .next { ready with busy := true, phase := .check } := by rfl

/-- R132: s_op = 1 after GENT. -/
theorem test_gent_step : step (ready.withFetchWord 32 4) =
    .next { ready with busy := true, phase := .check, scratch := { Scratch.zero with op := .gent } } := by rfl

/-- R231: ACK clears an error and WRDROP. -/
theorem test_ack_step :
    step (State.withFetchWord { ready with err := true, errcode := .malformedSecret, wrdrop := true } 32 5) =
      .next ready := by rfl

/-- R232: SRST is taken while busy and keeps IEN. -/
theorem test_srst_step :
    step (State.withFetchWord { ready.accept .genh with ien := 3 } 32 6) = .next { State.reset with ien := 3 } := by rfl

/-- R100: a command written while busy only sets WRDROP. -/
theorem test_busy_drop : step ((ready.accept .genh).withFetchWord 32 5) =
    .next { ready.accept .genh with wrdrop := true } := by rfl

/-- R252: an illegal word while idle. -/
theorem test_illegal_step : step (State.withFetchWord { ready with done := true } 32 7) =
    .next { ready with err := true, errcode := .illegalCommand } := by rfl

/-- R241, R250: the errors in their order read 1, 5, 2, 3, 6, 4 in ERRCODE. -/
theorem test_errcode_reads :
    [ErrCode.invalidDigitCount, .invalidStep, .invalidMovingFactor, .unsupportedHash, .keyOverflow, .malformedSecret].map
      (fun e => regRead 3 { State.reset with errcode := e }) = [1, 5, 2, 3, 6, 4] := by decide

/-- R250: with everything wrong the digit count is reported; with DIGITS, STEP and NOW right, the hash; then the key. -/
theorem test_checkErrors :
    checkErrors .gent { State.reset with stepLo := 0, alg := 3 } = .invalidDigitCount ∧
    checkErrors .gent { ready with stepLo := 0, t0Lo := 99 } = .invalidStep ∧
    checkErrors .gent { ready with t0Lo := 60, alg := 3 } = .invalidMovingFactor ∧
    checkErrors .genh { ready with t0Lo := 60, stepLo := 0 } = .noError ∧
    checkErrors .genh { ready with alg := 3, keyovf := true } = .unsupportedHash ∧
    checkErrors .genh { ready with keyovf := true, keylen := 0 } = .keyOverflow ∧
    checkErrors .genh { ready with keylen := 0 } = .malformedSecret := by decide

/-- R136: MFSEL takes the time step of NOW = 59 for a GENT. -/
theorem test_mfsel_gent : coreStep { ready.accept .gent with phase := .mfsel } =
    .next { ready.accept .gent with phase := .encode, scratch := { Scratch.zero with op := .gent, mf := 1 } } := by rfl

/-- R141: TRUNC of the worked MAC. -/
theorem test_trunc_phase :
    coreStep { ready.accept .genh with phase := .trunc, scratch := { Scratch.zero with mac := padTo 64 macOne } } =
      .next { ready.accept .genh with
        phase := .reduce, scratch := { Scratch.zero with mac := padTo 64 macOne, off := 11, p := 1094287082 } } := by rfl

/-- R32: STATUS of a busy operation in CHECK with WRDROP and KEYOVF set is 0x119. -/
theorem test_status_word :
    regRead 2 { ready.accept .genh with wrdrop := true, keyovf := true } = 0x00000119 := by decide

/-- R43, R49: the result registers show a committed MAC and string, most significant byte first. -/
theorem test_commit_packs :
    (macWords macOne)[0] = 0x75a48a19 ∧ (macWords (macOne ++ zeros 44))[4] = 0x7a2d33ab ∧
    wordAt [0x30, 0x37, 0x30, 0x38, 0x31, 0x38, 0x30, 0x34] 0 = 0x30373038 ∧
    wordAt [0x30, 0x37, 0x30, 0x38, 0x31, 0x38, 0x30, 0x34] 1 = 0x31383034 := by decide

/-- R77: a byte access is rejected, and a read of it returns 0. -/
theorem test_bus_filter : busRead 4 8 = some (.rejected (some 0)) ∧ busRead 6 32 = some (.rejected (some 0)) ∧
    busWrite 252 16 9 = some (.rejected none) ∧ busRead 252 32 = some (.transaction (.regRead 63)) ∧
    busWrite 4 32 3 = some (.transaction (.regWrite 1 3)) ∧ busRead 256 32 = none := by decide

/-- R70, R77: a write of GENH is an event to come, a byte write of it is none. -/
theorem test_bus_access :
    ready.access (busWrite 4 32 3) = { ready with pending := [.regWrite 1 3] } ∧ ready.access (busWrite 4 8 3) = ready :=
  ⟨rfl, rfl⟩

/-- R109: HOTP stands for five transactions and a WAIT. -/
theorem test_script_hotp : script [.hotp 0 6 0x100000002] =
    [.regWrite 5 0, .regWrite 6 6, .regWrite 8 2, .regWrite 9 1, .regWrite 1 3, .wait] := by decide

/-! ### Witnesses: for each obligation with hypotheses, a state and operands that meet them -/

theorem test_witness_DecodeFollowsOpcodeTable :
    decode 0x00003102 = .ok (.keyb 0x31) ∧ decode 0x00000003 = .ok .genh ∧ rowOf .genh ∈ opcodeTable ∧
      rowMatches (rowOf .genh) 0x00000003 = true := by decide

theorem test_witness_StepRunsDecodedCommand :
    decode 0x00003102 = .ok (.keyb 0x31) ∧
      (resetWith [.regWrite (regIndex .cmd) 0x00003102]).pending = .regWrite (regIndex .cmd) 0x00003102 :: [] := by decide

theorem test_witness_StepRunsEachEvent :
    (resetWith [.regRead 63]).pending = .regRead 63 :: [] ∧ (resetWith [.regWrite 5 1]).pending = .regWrite 5 1 :: [] ∧
      (resetWith [.reset]).pending = .reset :: [] ∧ (resetWith [.core]).pending = .core :: [] ∧
      (resetWith [.wait]).pending = .wait :: [] ∧ (resetWith []).pending = [] ∧ (resetWith []).busy = false := by decide

theorem test_witness_BusyWritesAreDropped :
    inFlight.busy = true ∧ regAt 5 = some .alg ∧ regAt 15 = some .stepHi ∧ isOperand .alg = true ∧
      isOperand .stepHi = true ∧ regAt 0 = some .id ∧ regAt 47 = some (.mac 15) ∧ isOperand .id = false ∧
      isOperand (.mac 15) = false ∧ regAt 25 = none ∧ regAt 63 = none ∧ (0x00000005 : Word) ≠ 0x00000006 := by decide

theorem test_witness_IllegalWordWhileIdle :
    ready.busy = false ∧ decode 0x00000007 = .error .reservedOpcode ∧ decode 0x00000100 = .error .formatNBits ∧
      decode 0x00010002 = .error .formatBBits := by decide

theorem test_witness_NopChangesNothing : ready.busy = false ∧ inFlight.busy = true := by decide

theorem test_witness_KeyclrEmptiesKey : ready.busy = false ∧ ready.secret = [0x61] ∧ 0 < ready.keylen.toNat := by decide

theorem test_witness_SrstResetsAllButIen : 0 < inFlight.keylen.toNat := by decide

theorem full_keylen : full.keylen.toNat = Config.keyMax := by
  have := Config.keyMax_lt
  simp [full]
  omega

/-- After an overflow; the boundary KEYLEN = KEY_MAX; and KEYLEN = 0 < KEY_MAX, which holds for every KEY_MAX, the least
being 1. -/
theorem test_witness_KeybAppendsOrOverflows :
    ({ full with keyovf := true } : State).busy = false ∧ ({ full with keyovf := true } : State).keyovf = true ∧
      full.busy = false ∧ full.keyovf = false ∧ full.keylen.toNat = Config.keyMax ∧ State.reset.busy = false ∧
      State.reset.keyovf = false ∧ State.reset.keylen.toNat < Config.keyMax ∧ State.reset.key.wf = true :=
  ⟨rfl, rfl, rfl, rfl, full_keylen, rfl, rfl, Config.keyMax_pos, rfl⟩

/-- One byte more than the memory holds after a KEYCLR; and, without it, one byte onto a full memory, whose KEYOVF is not
yet set and then is. -/
theorem test_witness_LoadingLaw :
    (resetWith (loadKey (zeros (Config.keyMax + 1)))).busy = false ∧
      (resetWith (loadKey (zeros (Config.keyMax + 1)))).pending = loadKey (zeros (Config.keyMax + 1)) ++ [] ∧
      ∀ ovf : Bool, let s : State := { full with pending := [command (.keyb 7)], keyovf := ovf }
        s.busy = false ∧ s.key.wf = true ∧ s.keylen.toNat ≤ Config.keyMax ∧ s.keyovf = ovf ∧
          s.pending = [(7 : Byte)].map (fun b => command (.keyb b)) ++ [] :=
  ⟨rfl, (List.append_nil _).symm, fun _ => ⟨rfl, rfl, full_keylen.le, rfl, rfl⟩⟩

theorem test_witness_GenerateIsAccepted : ready.busy = false := rfl

theorem test_witness_BusyCommandsAreDropped : inFlight.busy = true ∧ Instr.keyb 0 ≠ .srst := by decide

theorem test_witness_PhaseTransitions :
    ready.busy = false ∧ failing.busy = true ∧ coreStep failing = .next (failing.errorCommit .invalidDigitCount) ∧
      inFlight.busy = true ∧ coreStep inFlight = .next { inFlight with phase := .mfsel } ∧
      runEvent (.regWrite (regIndex .cmd) 6) inFlight = .next inFlight.softReset ∧ Phase.idle ≠ inFlight.phase ∧
      runEvent .reset inFlight = .next inFlight.hardReset ∧
      runEvent (.regWrite (regIndex .cmd) 3) ready = .next inFlight ∧ inFlight.phase ≠ ready.phase :=
  ⟨rfl, rfl, rfl, rfl, rfl, rfl, nofun, rfl, rfl, nofun⟩

theorem test_witness_CheckCommitsErrors :
    failing.busy = true ∧ failing.phase = .check ∧ checkErrors failing.scratch.op failing ≠ .noError ∧
      inFlight.busy = true ∧ inFlight.phase = .check ∧ checkErrors inFlight.scratch.op inFlight = .noError := by decide

/-- The least and the greatest digit count at the commit. -/
theorem test_witness_ResultCommitShowsScratch :
    ({ inFlight with phase := .commit, digits := 1 } : State).busy = true ∧ selectHash inFlight.alg = some .sha1 ∧
      1 ≤ (1 : Word).toNat ∧ (8 : Word).toNat ≤ 8 := by decide

theorem test_witness_SequencerComputesBigStep : checkErrors .genh ready = .noError := by decide

theorem test_witness_OperationTakesOneOrTenSteps :
    checkErrors .gent State.reset ≠ .noError ∧ checkErrors .gent ready = .noError := by decide

/-- The same operands and key beside another outcome, IEN and KEY byte above KEYLEN. -/
theorem test_witness_OutcomeIsStateless :
    SameOperands ready { ready with done := true, ien := 3, key := [(0, 0x61), (1, 9)] } ∧
      ∀ a, a < ready.keylen.toNat → Memory.read [(0, 0x61), (1, 9)] a = ready.key.read a :=
  ⟨⟨rfl, rfl, rfl, rfl, rfl, rfl, rfl, rfl, rfl, rfl⟩, by decide⟩

theorem test_witness_GentAgreesWithGenh : timeStep ready.now ready.t0 ready.stepSeconds = some 1 := by decide

theorem test_witness_CoreStepFrame :
    ready.busy = false ∧ coreStep inFlight = .next { inFlight with phase := .mfsel } := ⟨rfl, rfl⟩

theorem test_witness_PaddingIsLeast : 0 < 1 ∧ 0 < 64 := by decide

theorem test_witness_HmacHashesTwoBlocks :
    (enc64 1).length = 8 ∧ macOne.length = macLength .sha1 ∧ (zeros 32).length = macLength .sha256 ∧
      (zeros 64).length = macLength .sha512 := by decide

/-- A key that with its zeros just fits a block, and one that is one byte too long. -/
theorem test_witness_EquivalentKeysGiveOneMac :
    keyOne.length + 44 ≤ blockSize .sha1 ∧ blockSize .sha1 < (zeros 65).length := by decide

theorem test_witness_TruncationValue : 16 + 3 < macOne.length := by decide

/-- Two MACs that differ only in the high nibble of the last byte. -/
theorem test_witness_TruncationReadsOnlyWindowAndNibble :
    20 ≤ macOne.length ∧ (macOne.take 19 ++ [0x0b]).length = macOne.length ∧
      (∀ i, i ≤ 18 → macOne[i]? = (macOne.take 19 ++ [0x0b])[i]?) ∧
      (macOne.getD (macOne.length - 1) 0).extractLsb' 0 4 = (0x0b : Byte).extractLsb' 0 4 := by decide

theorem test_witness_ReduceIsRemainder : 1 ≤ 1 ∧ 1 ≤ 8 ∧ 8 ≤ 8 := by decide

theorem test_witness_CodeStringIsDecimal :
    (0 : BitVec 27).toNat < 10 ^ 1 ∧ (9 : BitVec 27).toNat < 10 ^ 1 ∧ (99999999 : BitVec 27).toNat < 10 ^ 8 := by decide

theorem test_witness_ShorterCodesAreSuffixes : 1 ≤ 1 ∧ 1 ≤ 8 ∧ 8 ≤ 8 := by decide

theorem test_witness_TimeStepIsFloor : timeStep 30 30 1 = some 0 ∧ timeStep 59 30 0 = none ∧ timeStep 29 30 1 = none := by
  decide

theorem test_witness_AckClearsOutcome :
    ({ ready with err := true, errcode := .keyOverflow, wrdrop := true } : State).busy = false ∧ inFlight.busy = true :=
  ⟨rfl, rfl⟩

theorem test_witness_OperandWriteReadsBack :
    ready.busy = false ∧ regAt 5 = some .alg ∧ isOperand .alg = true ∧ regAt 15 = some .stepHi ∧
      isOperand .stepHi = true := by decide

/-- The reserved bits next to a field, first and last. -/
theorem test_witness_ReservedBitsReadZero : (5 ≤ 5 ∧ 5 ≤ 7) ∧ (5 ≤ 7 ∧ 7 ≤ 7) ∧ 12 ≤ 12 ∧ 3 ≤ 3 ∧ 2 ≤ 2 ∧ 4 ≤ 4 ∧ 27 ≤ 27 := by
  decide

theorem test_witness_ReadOnlyWritesAreIgnored :
    regAt 0 = some .id ∧ isOperand .id = false ∧ Reg.id ≠ .cmd ∧ Reg.id ≠ .ien ∧ regAt 7 = some .keylen ∧
      isOperand .keylen = false ∧ regAt 31 = none ∧ regAt 48 = none := by decide

theorem test_witness_WindowLayout : regAt 25 = none ∧ regAt 31 = none ∧ regAt 48 = none ∧ regAt 63 = none ∧
    regAt 24 = some .maclen ∧ regAt 32 = some (.mac 0) := by decide

theorem test_witness_RejectedAccessChangesNothing :
    ¬ (32 = 32 ∧ 255 % 4 = 0) ∧ 255 < 256 ∧ ¬ (8 = 32 ∧ 4 % 4 = 0) ∧ 256 ≤ 256 ∧
      ¬ (32 = 32 ∧ 256 % 4 = 0 ∧ 256 < 256) := by decide

theorem test_witness_HashSelector : 2 < (3 : Word).toNat ∧ 2 < (0xFFFFFFFF : Word).toNat := by decide

/-- A next state for each command, idle and, for one of them, busy. -/
theorem test_witness_CommandFrame :
    exec .nop ready = .next ready ∧ exec .keyclr ready = .next ready.clearKey ∧
      exec (.keyb 0x31) State.reset = .next { State.reset with key := [(0, 0x31)], keylen := 1 } ∧
      exec .genh ready = .next (ready.accept .genh) ∧ exec .gent ready = .next (ready.accept .gent) ∧
      exec .ack ready = .next ready.acknowledge ∧ exec .srst ready = .next ready.softReset ∧
      exec (.keyb 0) inFlight = .next inFlight.dropWrite ∧ ready.busy = false ∧ State.reset.key.wf = true :=
  ⟨rfl, rfl, rfl, rfl, rfl, rfl, rfl, rfl, rfl, rfl⟩

theorem test_witness_KeyChangesOnlyByKeyCommands :
    step (ready.withFetchWord 32 0x01) = .next ready.clearKey ∧ ¬ SameKey (ready.withFetchWord 32 0x01) ready.clearKey :=
  ⟨rfl, fun h => absurd h.keylen (by decide)⟩

theorem test_witness_HostRegistersChangeOnlyByHost :
    step (resetWith [.regWrite (regIndex .ien) 3]) = .next { State.reset with ien := 3 } ∧
      (3 : BitVec 2) ≠ (resetWith [.regWrite (regIndex .ien) 3]).ien ∧
      step (resetWith [.regWrite (regIndex .alg) 1]) = .next { State.reset with alg := 1 } ∧
      ¬ SameOperands (resetWith [.regWrite (regIndex .alg) 1]) { State.reset with alg := 1 } :=
  ⟨rfl, by decide, rfl, fun h => absurd h.alg (by decide)⟩

/-- A good state with events to come. -/
theorem resetWith_good (e : Event) (es : List Event) : GoodState (resetWith (e :: es)) := by
  constructor <;> simp [resetWith, State.reset, Memory.wf]

/-- A good busy state whose operation ends in an error. -/
theorem failing_good : GoodState failing := by
  constructor <;> simp [failing, State.accept, State.clearOutcome, State.reset, Memory.wf]

/-- An ACK, and a commit by the Core alone, each change the results. -/
theorem test_witness_ResultsChangeOnlyTogether :
    step (State.withFetchWord { ready with done := true, results := { Results.zero with code := 7 } } 32 5) = .next ready ∧
      (7 : BitVec 27) ≠ Results.zero.code ∧
      step { inFlight with phase := .commit } =
        .next { ready with done := true, results := committedResults .sha1 { inFlight with phase := .commit } } ∧
      (committedResults .sha1 { inFlight with phase := .commit }).maclen ≠ inFlight.results.maclen :=
  ⟨rfl, by decide, rfl, by decide⟩

theorem test_witness_WrdropRecordsDrops :
    step (State.withFetchWord { ready with wrdrop := true } 32 5) = .next ready ∧ ready.wrdrop = false ∧
      step (inFlight.withFetchWord 32 0) = .next { inFlight with wrdrop := true } ∧ inFlight.wrdrop = false :=
  ⟨rfl, rfl, rfl, rfl⟩

theorem test_witness_NoPartialResults :
    GoodState (resetWith [.wait]) ∧ (resetWith [.wait]).done = false ∧ isResult .code = true ∧ isResult (.mac 15) = true :=
  ⟨resetWith_good _ _, rfl, rfl, rfl⟩

theorem test_witness_StepKeepsGoodState :
    GoodState (resetWith [.reset]) ∧ step (resetWith [.reset]) = .next State.reset ∧ GoodState failing ∧
      step failing = .next (failing.errorCommit .invalidDigitCount) :=
  ⟨resetWith_good _ _, rfl, failing_good, rfl⟩

theorem test_witness_StepFromGoodStateAnswersNext : GoodState failing ∧ GoodState (resetWith [.wait]) :=
  ⟨failing_good, resetWith_good _ _⟩

theorem test_witness_EveryScheduleReachesBigStep :
    GoodState failing ∧ OnCourse failing ∧ failing.busy = true ∧
      step failing = .next (failing.errorCommit .invalidDigitCount) ∧
      coreStep failing = .next (failing.errorCommit .invalidDigitCount) ∧
      (failing.errorCommit .invalidDigitCount).busy = false :=
  ⟨failing_good, fun _ => rfl, rfl, rfl, rfl, rfl⟩

theorem test_witness_WaitEnds : GoodState (resetWith [.wait]) ∧ (resetWith [.wait]).pending = .wait :: [] ∧
    GoodState { failing with pending := [.wait] } :=
  ⟨resetWith_good _ _, rfl, by constructor <;> simp [failing, State.accept, State.clearOutcome, State.reset, Memory.wf]⟩

theorem test_witness_SetPairWritesBothHalves :
    (resetWith (set64 .step 0x100000002)).busy = false ∧
      (resetWith (set64 .step 0x100000002)).pending = set64 .step 0x100000002 ++ [] := by decide

end Sys2Proof.Tests
end

/-! ## What two states have in common, and what of it the checks, the moving factor and the big step see -/

section
namespace Sys2Proof.Machine

variable {s t u : State}

theorem SameOperands.refl (s : State) : SameOperands s s := ⟨rfl, rfl, rfl, rfl, rfl, rfl, rfl, rfl, rfl, rfl⟩

/-- The pairs are read from the operand registers. -/
theorem SameOperands.pairs (h : SameOperands s t) :
    t.ctr = s.ctr ∧ t.now = s.now ∧ t.t0 = s.t0 ∧ t.stepSeconds = s.stepSeconds := by
  simp only [State.ctr, State.now, State.t0, State.stepSeconds, h.ctrLo, h.ctrHi, h.nowLo, h.nowHi, h.t0Lo, h.t0Hi,
    h.stepLo, h.stepHi, and_self]

/-- The checks see the operand registers, KEYLEN and KEYOVF, and nothing else (R250). -/
theorem checkErrors_congr {op : GenOp} (h : SameOperands s t) (hl : t.keylen = s.keylen) (ho : t.keyovf = s.keyovf) :
    checkErrors op t = checkErrors op s := by
  obtain ⟨-, hnow, ht0, hstep⟩ := h.pairs
  simp only [checkErrors, h.alg, h.digits, hnow, ht0, hstep, hl, ho]

/-- The moving factor depends on the operand registers alone (R136). -/
theorem movingFactor_congr {op : GenOp} (h : SameOperands s t) : t.movingFactor op = s.movingFactor op := by
  obtain ⟨hctr, hnow, ht0, hstep⟩ := h.pairs
  cases op
  · simp only [State.movingFactor, hctr]
  · simp only [State.movingFactor, hnow, ht0, hstep]

/-- The secret is KEYLEN and the bytes below it (R53). -/
theorem secret_congr (hl : t.keylen = s.keylen) (hk : ∀ a, a < s.keylen.toNat → t.key.read a = s.key.read a) :
    t.secret = s.secret := by
  simp only [State.secret, hl]
  exact Memory.readBytes_congr fun i hi => by simpa using hk i hi

/-- The results depend on the operand registers and the secret (R145). -/
theorem bigStepResults_congr {op : GenOp} (h : SameOperands s t) (hs : t.secret = s.secret) :
    bigStepResults op t = bigStepResults op s := by
  simp only [bigStepResults, h.alg, h.digits, hs, movingFactor_congr h]

theorem accept_sameOperands (op : GenOp) (s : State) : SameOperands s (s.accept op) := by
  constructor <;> simp

/-- What the acceptance of an operation overwrites does not reach its outcome. -/
theorem bigStep_accept (op op' : GenOp) (s : State) : bigStep op (s.accept op') = bigStep op s := by
  have hsame := accept_sameOperands op' s
  simp only [bigStep, checkErrors_congr (op := op) hsame rfl rfl, bigStepResults_congr (op := op) hsame rfl]
  split <;> simp

/-! ### Runs of the Core -/

/-- With BUSY = 0 the Core does nothing (R134). -/
theorem coreStep_idle (h : s.busy = false) : coreStep s = .next s := if_neg (by simp [h])

theorem coreRun_idle (n : Nat) (h : s.busy = false) : coreRun n s = .next s := by
  induction n with
  | zero => rfl
  | succ n ih => rw [coreRun_succ (coreStep_idle h), ih]

/-- A run of n + 1 Core steps that ends in a state is a step and a run of n. -/
theorem coreRun_succ_cases {n : Nat} (h : coreRun (n + 1) s = .next t) :
    ∃ u, coreStep s = .next u ∧ coreRun n u = .next t := by
  unfold coreRun at h
  split at h
  · next u hu => exact ⟨u, hu, h⟩
  · cases h
  · cases h

/-! ### What the Core takes no notice of -/

/-- IEN, WRDROP and the Host's side replaced: what a step can do to a state without the operation in flight taking
notice (R61). -/
def State.withInterface (p : List Event) (r : List Word) (w : Bool) (i : BitVec 2) (s : State) : State :=
  { s with pending := p, replies := r, wrdrop := w, ien := i }

section
variable (p : List Event) (r : List Word) (w : Bool) (i : BitVec 2)

theorem withInterface_sameOperands (s : State) : SameOperands s (s.withInterface p r w i) :=
  ⟨rfl, rfl, rfl, rfl, rfl, rfl, rfl, rfl, rfl, rfl⟩

theorem withInterface_sameKey (s : State) : SameKey s (s.withInterface p r w i) := ⟨rfl, rfl, rfl⟩

theorem withInterface_sameOperation (s : State) : SameOperation s (s.withInterface p r w i) :=
  ⟨rfl, rfl, rfl, rfl, rfl, rfl, rfl⟩

@[simp] theorem withInterface_phase (s : State) : (s.withInterface p r w i).phase = s.phase := rfl
@[simp] theorem withInterface_digits (s : State) : (s.withInterface p r w i).digits = s.digits := rfl
@[simp] theorem withInterface_results (s : State) : (s.withInterface p r w i).results = s.results := rfl
@[simp] theorem withInterface_wrdrop (s : State) : (s.withInterface p r w i).wrdrop = w := rfl
@[simp] theorem withInterface_scratch (s : State) : (s.withInterface p r w i).scratch = s.scratch := rfl

@[simp] theorem movingFactor_withInterface (op : GenOp) (s : State) :
    (s.withInterface p r w i).movingFactor op = s.movingFactor op := movingFactor_congr (withInterface_sameOperands ..)

@[simp] theorem checkErrors_withInterface (op : GenOp) (s : State) :
    checkErrors op (s.withInterface p r w i) = checkErrors op s :=
  checkErrors_congr (withInterface_sameOperands ..) rfl rfl

theorem bigStep_withInterface (op : GenOp) (s : State) :
    bigStep op (s.withInterface p r w i) = (bigStep op s).withInterface p r w i := by
  have hsame := withInterface_sameOperands p r w i s
  simp only [bigStep, checkErrors_withInterface, bigStepResults_congr (op := op) hsame rfl]
  split <;> rfl

/-- A Core step does the same whatever the interface registers and the Host's side hold. -/
theorem coreStep_withInterface (h : coreStep s = .next t) :
    coreStep (s.withInterface p r w i) = .next (t.withInterface p r w i) := by
  cases hb : s.busy
  case false =>
    rw [coreStep_idle hb] at h
    cases h
    exact coreStep_idle hb
  rw [coreStep_busy hb] at h
  rw [coreStep_busy (s := s.withInterface p r w i) hb, withInterface_phase]
  cases hp : s.phase <;> simp only [hp] at h ⊢
  case idle => cases h; rfl
  case check =>
    unfold phaseCheck at h ⊢
    rw [withInterface_scratch, checkErrors_withInterface]
    split at h <;> cases h
    · next he => exact if_pos he
    · next he => exact if_neg he
  case mfsel =>
    unfold phaseMfsel at h ⊢
    rw [withInterface_scratch, movingFactor_withInterface]
    split at h <;> cases h
    rfl
  case encode => cases h; rfl
  case reduce =>
    unfold phaseReduce at h ⊢
    rw [withInterface_scratch, withInterface_digits]
    split at h <;> cases h
    rfl
  case format =>
    unfold phaseFormat at h ⊢
    rw [withInterface_scratch, withInterface_digits]
    split at h <;> cases h
    rfl
  all_goals
    obtain ⟨a, ha, rfl⟩ := withHash_cases h
    exact withHash_some ha

/-- So does a run of the Core. -/
theorem coreRun_withInterface {n : Nat} (h : coreRun n s = .next t) :
    coreRun n (s.withInterface p r w i) = .next (t.withInterface p r w i) := by
  induction n generalizing s with
  | zero => cases h; rfl
  | succ n ih =>
    obtain ⟨u, hu, hn⟩ := coreRun_succ_cases h
    exact (coreRun_succ (coreStep_withInterface p r w i hu)).trans (ih hn)

end

end Sys2Proof.Machine
end

/-! ## The big step (R145) -/

section
namespace Sys2Proof.Machine

variable {s t : State} {op : GenOp} {a : HashAlg} {key : List Byte} {mf : DWord}

/-! ### One lemma per phase: the Core's step where the phase's unit is defined (R135 to R143). -/

theorem coreStep_check (hb : s.busy = true) (hp : s.phase = .check) (h : checkErrors s.scratch.op s = .noError) :
    coreStep s = .next { s with phase := .mfsel } := by
  rw [coreStep_busy hb, hp]
  exact if_pos h

theorem coreStep_check_error (hb : s.busy = true) (hp : s.phase = .check)
    (h : checkErrors s.scratch.op s ≠ .noError) : coreStep s = .next (s.errorCommit (checkErrors s.scratch.op s)) := by
  rw [coreStep_busy hb, hp]
  exact if_neg h

theorem coreStep_mfsel (hb : s.busy = true) (hp : s.phase = .mfsel) (h : s.movingFactor s.scratch.op = some mf) :
    coreStep s = .next { s with scratch := { s.scratch with mf := mf }, phase := .encode } := by
  rw [coreStep_busy hb, hp]
  simp only [phaseMfsel, h]

theorem coreStep_encode (hb : s.busy = true) (hp : s.phase = .encode) :
    coreStep s = .next { s with
      scratch := { s.scratch with msg := padTo 8 (enc64 s.scratch.mf) }, phase := .keyprep } := by
  rw [coreStep_busy hb, hp]
  rfl

theorem coreStep_keyprep (hb : s.busy = true) (hp : s.phase = .keyprep)
    (ha : selectHash s.alg = some a) (hk : s.secret = key) :
    coreStep s = .next { s with
      scratch := { s.scratch with k0 := padTo 128 (keyBlock a key) }, phase := .inner } := by
  rw [coreStep_busy hb, hp, ← hk]
  exact withHash_some ha

theorem coreStep_inner (hb : s.busy = true) (hp : s.phase = .inner) (ha : selectHash s.alg = some a) :
    coreStep s = .next { s with
      scratch := { s.scratch with
        inner := padTo 64 (innerHash a (s.scratch.k0.toList.take (blockSize a)) s.scratch.msg.toList) }
      phase := .outer } := by
  rw [coreStep_busy hb, hp]
  exact withHash_some ha

theorem coreStep_outer (hb : s.busy = true) (hp : s.phase = .outer) (ha : selectHash s.alg = some a) :
    coreStep s = .next { s with
      scratch := { s.scratch with
        mac := padTo 64 (outerHash a (s.scratch.k0.toList.take (blockSize a))
          (s.scratch.inner.toList.take (macLength a))) }
      phase := .trunc } := by
  rw [coreStep_busy hb, hp]
  exact withHash_some ha

theorem coreStep_trunc (hb : s.busy = true) (hp : s.phase = .trunc) (ha : selectHash s.alg = some a) :
    coreStep s = .next { s with
      scratch := { s.scratch with
        off := (trunc (s.scratch.mac.toList.take (macLength a))).1
        p := (trunc (s.scratch.mac.toList.take (macLength a))).2 }
      phase := .reduce } := by
  rw [coreStep_busy hb, hp]
  exact withHash_some ha

theorem coreStep_reduce {c : BitVec 27} (hb : s.busy = true) (hp : s.phase = .reduce)
    (hc : reduceCode s.scratch.p s.digits.toNat = some c) :
    coreStep s = .next { s with scratch := { s.scratch with code := c }, phase := .format } := by
  rw [coreStep_busy hb, hp]
  simp only [phaseReduce, hc]

theorem coreStep_format {str : List Byte} (hb : s.busy = true) (hp : s.phase = .format)
    (hs : formatCode s.scratch.code s.digits.toNat = some str) :
    coreStep s = .next { s with scratch := { s.scratch with str := padTo 8 str }, phase := .commit } := by
  rw [coreStep_busy hb, hp]
  simp only [phaseFormat, hs]

theorem coreStep_commit (hb : s.busy = true) (hp : s.phase = .commit) (ha : selectHash s.alg = some a) :
    coreStep s = .next
      { s.clearScratch with results := committedResults a s, done := true, busy := false, phase := .idle } := by
  rw [coreStep_busy hb, hp]
  exact withHash_some ha

/-! ### What the padded scratch registers give back to the phases that read them. -/

theorem padTo_enc64 (mf : DWord) : (padTo 8 (enc64 mf)).toList = enc64 mf := by
  have h : (enc64 mf).length = 8 := beBytes_length ..
  rw [padTo_toList h.le, h, Nat.sub_self, zeros_zero, List.append_nil]

theorem padTo_keyBlock (a : HashAlg) (key : List Byte) :
    (padTo 128 (keyBlock a key)).toList.take (blockSize a) = keyBlock a key := by
  have h := keyBlock_length a key
  conv_lhs => rw [← h]
  exact padTo_take (h.trans_le (blockSize_le a))

/-- A digest of L bytes, kept in a register of 64. -/
theorem padTo_digest {d : List Byte} (h : d.length = macLength a) : (padTo 64 d).toList.take (macLength a) = d := by
  rw [← h]
  exact padTo_take (h.trans_le (macLength_le a))

/-! ### The run as a whole -/

/-- Scratch as FORMAT leaves it: what each phase computed from the secret and the moving factor, by the source's own
seven steps (R145). -/
def pipelineScratch (op : GenOp) (a : HashAlg) (secret : List Byte) (mf : DWord) (code : BitVec 27) (str : List Byte) :
    Scratch where
  op := op
  mf := mf
  msg := padTo 8 (enc64 mf)
  k0 := padTo 128 (keyBlock a secret)
  inner := padTo 64 (innerHash a (keyBlock a secret) (enc64 mf))
  mac := padTo 64 (hmac a secret (enc64 mf))
  off := (trunc (hmac a secret (enc64 mf))).1
  p := (trunc (hmac a secret (enc64 mf))).2
  code := code
  str := padTo 8 str

/-- An operation in which CHECK finds no error stands in COMMIT nine Core steps later, with the pipeline's values in
scratch. -/
theorem coreRun_check_to_commit {code : BitVec 27} {str : List Byte} (hb : s.busy = true) (hp : s.phase = .check)
    (he : checkErrors s.scratch.op s = .noError) (ha : selectHash s.alg = some a)
    (hmf : s.movingFactor s.scratch.op = some mf) (hkey : s.secret = key)
    (hc : reduceCode (trunc (hmac a key (enc64 mf))).2 s.digits.toNat = some code)
    (hs : formatCode code s.digits.toNat = some str) :
    coreRun 9 s =
      .next { s with scratch := pipelineScratch s.scratch.op a key mf code str, phase := .commit } := by
  refine Eq.trans (coreRun_succ (coreStep_check hb hp he)) ?_
  refine Eq.trans (coreRun_succ (coreStep_mfsel hb rfl hmf)) ?_
  refine Eq.trans (coreRun_succ (coreStep_encode hb rfl)) ?_
  refine Eq.trans (coreRun_succ (coreStep_keyprep hb rfl ha hkey)) ?_
  refine Eq.trans (coreRun_succ (coreStep_inner hb rfl ha)) ?_
  refine Eq.trans (coreRun_succ (coreStep_outer hb rfl ha)) ?_
  refine Eq.trans (coreRun_succ (coreStep_trunc hb rfl ha)) ?_
  simp only [padTo_keyBlock, padTo_enc64, padTo_digest (innerHash_length ..), padTo_digest (outerHash_length ..)]
  refine Eq.trans (coreRun_succ (coreStep_reduce hb rfl hc)) ?_
  refine Eq.trans (coreRun_succ (coreStep_format hb rfl hs)) ?_
  simp [coreRun, pipelineScratch, hmac]

/-- What COMMIT shows of the pipeline's scratch is what the source's `generate` returns (R143, R145). -/
theorem committedResults_pipeline {code : BitVec 27} {str : List Byte}
    (hsc : s.scratch = pipelineScratch op a key mf code str)
    (hc : reduceCode (trunc (hmac a key (enc64 mf))).2 s.digits.toNat = some code)
    (hs : formatCode code s.digits.toNat = some str) (hd : s.digits.toNat ≤ 8) :
    generate a key mf s.digits.toNat = some (committedResults a s) := by
  have hstr : str.length = s.digits.toNat := by
    rw [formatCode_of_le hd] at hs
    cases hs
    simp
  have hlen := hmac_length a key (enc64 mf)
  simp only [trunc] at hc
  simp only [generate, hc, hs, Option.bind_some, Option.map_some, committedResults, hsc, pipelineScratch, trunc]
  rw [padTo_toList (hstr.trans_le hd), padTo_toList (hlen.trans_le (macLength_le a)), hlen, hstr, BitVec.ofNat_toNat]

theorem checkErrors_accept (op op' : GenOp) (s : State) : checkErrors op (s.accept op') = checkErrors op s :=
  checkErrors_congr (accept_sameOperands op' s) rfl rfl

theorem secret_accept (op : GenOp) (s : State) : (s.accept op).secret = s.secret :=
  secret_congr rfl fun _ _ => rfl

/-- An operation in which CHECK finds an error is over after one Core step (R144, R251). -/
theorem coreRun_accept_error (op : GenOp) (s : State) (he : checkErrors op s ≠ .noError) :
    coreRun 10 (s.accept op) = .next (bigStep op s) := by
  have hc : checkErrors (s.accept op).scratch.op (s.accept op) = checkErrors op s := checkErrors_accept ..
  have hstep : coreStep (s.accept op) = .next ((s.accept op).errorCommit (checkErrors op s)) := by
    rw [coreStep_check_error rfl rfl (by rwa [hc]), hc]
  rw [coreRun_succ hstep, coreRun_idle 9 (State.errorCommit_busy ..), bigStep, if_neg he]
  simp [State.errorCommit]

/-- An operation without error shows the source's results after ten Core steps (R143, R145). -/
theorem coreRun_accept_noError (op : GenOp) (s : State) (he : checkErrors op s = .noError) :
    coreRun 10 (s.accept op) = .next (bigStep op s) ∧ ∃ r, bigStepResults op s = some r := by
  obtain ⟨-, hd, halg, hgent, -, -⟩ := checkErrors_noError he
  obtain ⟨a, ha⟩ := selectHash_of_le halg
  obtain ⟨mf, hmf⟩ := movingFactor_of hgent
  obtain ⟨code, hc⟩ : ∃ c, reduceCode (trunc (hmac a s.secret (enc64 mf))).2 s.digits.toNat = some c :=
    ⟨_, reduceCode_of_le hd⟩
  obtain ⟨str, hs⟩ : ∃ str, formatCode code s.digits.toNat = some str := ⟨_, formatCode_of_le hd⟩
  let u : State := { s.accept op with scratch := pipelineScratch op a s.secret mf code str, phase := .commit }
  have hcommit : coreRun 9 (s.accept op) = .next u :=
    coreRun_check_to_commit rfl rfl ((checkErrors_accept ..).trans he) ha
      ((movingFactor_congr (accept_sameOperands ..)).trans hmf) (secret_accept ..) hc hs
  have hres : bigStepResults op s = some (committedResults a u) := by
    rw [bigStepResults, ha, Option.bind_some, hmf, Option.bind_some]
    exact committedResults_pipeline (s := u) rfl hc hs hd
  refine ⟨?_, _, hres⟩
  calc coreRun 10 (s.accept op)
      = coreStep u := coreRun_last hcommit
    _ = .next { u.clearScratch with results := committedResults a u, done := true, busy := false, phase := .idle } :=
        coreStep_commit rfl rfl ha
    _ = .next (bigStep op s) := by
        rw [bigStep, if_pos he, hres]
        simp [u]

/-- Ten Core steps from the acceptance lead to the big-step outcome (R145). -/
theorem coreRun_accept (op : GenOp) (s : State) : coreRun 10 (s.accept op) = .next (bigStep op s) := by
  by_cases he : checkErrors op s = .noError
  · exact (coreRun_accept_noError op s he).1
  · exact coreRun_accept_error op s he

/-- The outcome shown: results, DONE, ERR and ERRCODE are functions of what the checks and the results see. -/
theorem bigStep_congr (h : SameOperands s t) (hl : t.keylen = s.keylen) (ho : t.keyovf = s.keyovf)
    (hs : t.secret = s.secret) :
    (bigStep op t).results = (bigStep op s).results ∧ (bigStep op t).done = (bigStep op s).done ∧
      (bigStep op t).err = (bigStep op s).err ∧ (bigStep op t).errcode = (bigStep op s).errcode := by
  simp only [bigStep, checkErrors_congr (op := op) h hl ho, bigStepResults_congr (op := op) h hs]
  split <;> exact ⟨rfl, rfl, rfl, rfl⟩

end Sys2Proof.Machine
end

/-! ## What one step can be, seen from outside -/

section
namespace Sys2Proof.Machine

variable {s t : State}

/-- A word is its bits from 8 up before its bits below 8. -/
theorem append_opcodeOf (w : Word) : w.extractLsb' 8 24 ++ opcodeOf w = w := by
  refine BitVec.eq_of_getLsbD_eq fun i hi => ?_
  rw [BitVec.getLsbD_append, opcodeOf, BitVec.getLsbD_extractLsb', BitVec.getLsbD_extractLsb']
  split
  · next h => simp [h]
  · next h => simp [show i - 8 < 24 by omega, show 8 + (i - 8) = i by omega]

/-- The upper bits of a Format B word are its zeros before its byte. -/
theorem append_imm8Of (w : Word) : w.extractLsb' 16 16 ++ imm8Of w = w.extractLsb' 8 24 := by
  refine BitVec.eq_of_getLsbD_eq fun i hi => ?_
  rw [BitVec.getLsbD_append, imm8Of, BitVec.getLsbD_extractLsb', BitVec.getLsbD_extractLsb', BitVec.getLsbD_extractLsb']
  split
  · next h => simp [h, hi]
  · next h => simp [show i - 8 < 16 by omega, show 16 + (i - 8) = 8 + i by omega, hi]

theorem decodeFormatN_ok {w : Word} {i j : Instr} (h : decodeFormatN w j = .ok i) :
    i = j ∧ w = encodeFormatN (opcodeOf w) := by
  unfold decodeFormatN at h
  split at h <;> cases h
  next hz => exact ⟨rfl, by rw [encodeFormatN, ← hz, append_opcodeOf]⟩

theorem decodeFormatB_ok {w : Word} {i : Instr} {f : Byte → Instr} (h : decodeFormatB w f = .ok i) :
    i = f (imm8Of w) ∧ w = encodeFormatB (imm8Of w) (opcodeOf w) := by
  unfold decodeFormatB at h
  split at h <;> cases h
  next hz => exact ⟨rfl, by rw [encodeFormatB, ← hz, append_imm8Of, append_opcodeOf]⟩

/-- A word that decodes is the word of its instruction (R101, R103). -/
theorem eq_encode_of_decode {w : Word} {i : Instr} (h : decode w = .ok i) : w = encode i := by
  have hop (n : Nat) (hn : (opcodeOf w).toNat = n) : opcodeOf w = BitVec.ofNat 8 n := by
    rw [← hn, BitVec.ofNat_toNat, BitVec.setWidth_eq]
  unfold decode at h
  split at h
  case h_3 hn =>
    obtain ⟨rfl, hw⟩ := decodeFormatB_ok h
    rwa [hop _ hn] at hw
  case h_8 => cases h
  all_goals
    next hn =>
      obtain ⟨rfl, hw⟩ := decodeFormatN_ok h
      rwa [hop _ hn] at hw

/-- The word of SRST decodes to nothing else. -/
theorem decode_srst : decode (encode .srst) = .ok .srst := by decide

theorem nextCommand_of_pending {w : Word} {rest : List Event} (h : s.pending = .regWrite (regIndex .cmd) w :: rest) :
    nextCommand s = some w := by simp [nextCommand, h]

/-- What a step from `s` can be: the event it took and the state it leaves, the Host's side of `s` already advanced. -/
inductive StepOutcome (s : State) : State → Prop
  /-- The Core's step, as an event or by itself (R134, R144). -/
  | core {t : State} (rest : List Event) (hp : s.pending = .core :: rest ∨ s.pending = [])
      (h : coreStep (s.withPending rest) = .next t) : StepOutcome s t
  /-- Reset (R280). -/
  | reset (rest : List Event) (hp : s.pending = .reset :: rest) : StepOutcome s (s.withPending rest).hardReset
  /-- A read, a poll, NOP while idle, a write to IEN, or a write that is ignored (R40, R50, R72, R109, R120). -/
  | interface (p : List Event) (r : List Word) (i : BitVec 2) : StepOutcome s (s.withInterface p r s.wrdrop i)
  /-- A write dropped while busy (R290). -/
  | dropped {i : Fin 64} {v : Word} {rest : List Event} (hb : s.busy = true) (hp : s.pending = .regWrite i v :: rest)
      (hd : (i = regIndex .cmd ∧ v ≠ encode .srst) ∨ ∃ r, regAt i = some r ∧ isOperand r = true) :
      StepOutcome s (s.withPending rest).dropWrite
  /-- A write to an operand register while idle (R73). -/
  | operand (rest : List Event) (r : Reg) (v : Word) (hb : s.busy = false) :
      StepOutcome s ((s.withPending rest).storeOperand r v)
  /-- SRST, busy or idle (R232). -/
  | srst (rest : List Event) (hn : nextCommand s = some (encode .srst)) : StepOutcome s (s.withPending rest).softReset
  /-- KEYCLR while idle (R121). -/
  | keyclr (rest : List Event) (hb : s.busy = false) (hn : nextCommand s = some (encode .keyclr)) :
      StepOutcome s (s.withPending rest).clearKey
  /-- KEYB while idle (R122). -/
  | keyb {t : State} (rest : List Event) (b : Byte) (hb : s.busy = false) (hn : nextCommand s = some (encode (.keyb b)))
      (h : (s.withPending rest).appendKey b = .next t) : StepOutcome s t
  /-- GENH or GENT while idle (R132). -/
  | accept (rest : List Event) (op : GenOp) (hb : s.busy = false)
      (hn : nextCommand s = some (encode .genh) ∨ nextCommand s = some (encode .gent)) :
      StepOutcome s ((s.withPending rest).accept op)
  /-- ACK while idle (R231). -/
  | ack (rest : List Event) (hb : s.busy = false) (hn : nextCommand s = some (encode .ack)) :
      StepOutcome s (s.withPending rest).acknowledge
  /-- An illegal word while idle (R252). -/
  | illegal (rest : List Event) {w : Word} {e : IllegalWord} (hb : s.busy = false) (hn : nextCommand s = some w)
      (hd : decode w = .error e) : StepOutcome s (s.withPending rest).illegalCommand

/-- A word written to CMD. -/
theorem execCommand_outcome {w : Word} {rest : List Event} (hp : s.pending = .regWrite (regIndex .cmd) w :: rest)
    (h : execCommand w (s.withPending rest) = .next t) : StepOutcome s t := by
  have hn := nextCommand_of_pending hp
  rcases execCommand_cases h with ⟨i, hd, hx⟩ | ⟨e, hd, ⟨hb, rfl⟩ | ⟨hb, rfl⟩⟩
  · obtain rfl := eq_encode_of_decode hd
    rcases exec_cases hx with ⟨rfl, rfl⟩ | ⟨hi, hb, rfl⟩ | ⟨hb, hx⟩
    · exact .srst rest hn
    · refine .dropped (s := s) hb hp (.inl ⟨rfl, fun hw => hi ?_⟩)
      rw [hw, decode_srst] at hd
      cases hd
      rfl
    · rcases hx with ⟨rfl, rfl⟩ | ⟨rfl, rfl⟩ | ⟨b, rfl, hk⟩ | ⟨rfl, rfl⟩ | ⟨rfl, rfl⟩ | ⟨rfl, rfl⟩
      · exact .interface rest s.replies s.ien
      · exact .keyclr rest hb hn
      · exact .keyb rest b hb hn hk
      · exact .accept rest .genh hb (.inl hn)
      · exact .accept rest .gent hb (.inr hn)
      · exact .ack rest hb hn
  · refine .dropped (s := s) hb hp (.inl ⟨rfl, fun hw => ?_⟩)
    rw [hw, decode_srst] at hd
    cases hd
  · exact .illegal rest hb hn hd

/-- Every step is one of these. -/
theorem step_outcome (h : step s = .next t) : StepOutcome s t := by
  rcases step_cases h with ⟨e, rest, hp, he⟩ | ⟨hp, hc⟩
  · rcases runEvent_cases he with ⟨i, rfl, rfl⟩ | ⟨i, v, rfl, hw⟩ | ⟨rfl, hc⟩ | ⟨rfl, rfl⟩ | ⟨rfl, hb, rfl⟩ |
      ⟨rfl, hb, rfl⟩
    · exact .interface rest _ s.ien
    · rcases regWrite_cases hw with ⟨hi, h⟩ | ⟨hi, rfl⟩ | ⟨r, hr, ho, ⟨hb, rfl⟩ | ⟨hb, rfl⟩⟩ | rfl
      · obtain rfl := eq_cmd_of_regAt hi
        exact execCommand_outcome hp h
      · exact .interface rest s.replies _
      · exact .dropped (s := s) hb hp (.inr ⟨r, hr, ho⟩)
      · exact .operand (s := s) rest r v hb
      · exact .interface rest s.replies s.ien
    · exact .core rest (.inl hp) hc
    · exact .reset rest hp
    · exact .interface _ _ s.ien
    · exact .interface rest _ s.ien
  · have hs : s.withPending [] = s := by simp [State.withPending, ← hp]
    exact .core [] (.inr hp) (hs.symm ▸ hc)

end Sys2Proof.Machine
end

/-! ## The invariants (R51) -/

section
namespace Sys2Proof.Machine

variable {s t : State}

/-- The invariants do not speak of IEN, WRDROP and the Host's side, nor of the operands while idle. -/
theorem GoodState.transfer (h : GoodState s) (hk : SameKey s t) (ho : SameOperation s t)
    (hc : s.busy = true → SameOperands s t) : GoodState t where
  busy_iff := by simpa only [ho.busy, ho.phase] using h.busy_iff
  err_iff := by simpa only [ho.err, ho.errcode] using h.err_iff
  busy_not_done := by simpa only [ho.busy, ho.done] using h.busy_not_done
  busy_not_err := by simpa only [ho.busy, ho.err] using h.busy_not_err
  done_not_err := by simpa only [ho.done, ho.err] using h.done_not_err
  results_zero := by simpa only [ho.done, ho.results] using h.results_zero
  scratch_zero := by simpa only [ho.busy, ho.scratch] using h.scratch_zero
  keylen_le := by simpa only [hk.keylen] using h.keylen_le
  keyovf_full := by simpa only [hk.keylen, hk.keyovf] using h.keyovf_full
  key_wf := by simpa only [hk.key] using h.key_wf
  key_below := by simpa only [hk.keylen, hk.key] using h.key_below
  checked := by
    rw [ho.busy, ho.phase, ho.scratch]
    intro hb hp
    rw [checkErrors_congr (hc hb) hk.keylen hk.keyovf]
    exact h.checked hb hp

theorem GoodState.withInterface (h : GoodState s) (p : List Event) (r : List Word) (w : Bool) (i : BitVec 2) :
    GoodState (s.withInterface p r w i) :=
  h.transfer (withInterface_sameKey ..) (withInterface_sameOperation ..) fun _ => withInterface_sameOperands ..

theorem GoodState.withPending (h : GoodState s) (es : List Event) : GoodState (s.withPending es) :=
  h.withInterface es s.replies s.wrdrop s.ien

/-- An operand write leaves the key, the operation, the Host's side, IEN and WRDROP alone. -/
theorem storeOperand_frame (r : Reg) (v : Word) (s : State) :
    SameKey s (s.storeOperand r v) ∧ SameOperation s (s.storeOperand r v) ∧ SameHostSide s (s.storeOperand r v) ∧
      (s.storeOperand r v).ien = s.ien ∧ (s.storeOperand r v).wrdrop = s.wrdrop := by
  cases r <;> exact ⟨⟨rfl, rfl, rfl⟩, ⟨rfl, rfl, rfl, rfl, rfl, rfl, rfl⟩, ⟨rfl, rfl⟩, rfl, rfl⟩

theorem GoodState.storeOperand (h : GoodState s) (hb : s.busy = false) (r : Reg) (v : Word) :
    GoodState (s.storeOperand r v) :=
  have ⟨hk, ho, _⟩ := storeOperand_frame r v s
  h.transfer hk ho (by simp [hb])

/-- KEYB touches nothing but the key. -/
theorem appendKey_frame {b : Byte} (h : s.appendKey b = .next t) :
    SameOperands s t ∧ SameOperation s t ∧ t.wrdrop = s.wrdrop := by
  rcases appendKey_cases h with ⟨-, rfl⟩ | ⟨-, -, rfl⟩ | ⟨-, -, rfl⟩ <;>
    exact ⟨⟨rfl, rfl, rfl, rfl, rfl, rfl, rfl, rfl, rfl, rfl⟩, ⟨rfl, rfl, rfl, rfl, rfl, rfl, rfl⟩, rfl⟩

/-- The invariants hold after Reset, whatever IEN and the Host's side. -/
theorem goodState_reset : GoodState State.reset := by
  constructor <;> simp [Memory.wf]

theorem goodState_hardReset (s : State) : GoodState s.hardReset :=
  goodState_reset.withInterface s.pending s.replies false 0

theorem goodState_softReset (s : State) : GoodState s.softReset :=
  goodState_reset.withInterface s.pending s.replies false s.ien

/-! The commands, taken while idle. -/

theorem GoodState.clearKey (h : GoodState s) (hb : s.busy = false) : GoodState s.clearKey :=
  { h with
    keylen_le := Nat.zero_le _
    keyovf_full := nofun
    key_wf := rfl
    key_below := nofun
    checked := by simp [hb] }

theorem GoodState.appendKey {b : Byte} (h : GoodState s) (hb : s.busy = false) (ha : s.appendKey b = .next t) :
    GoodState t := by
  rcases appendKey_cases ha with ⟨-, rfl⟩ | ⟨-, hl, rfl⟩ | ⟨ho, hl, rfl⟩
  · exact h
  · exact { h with keyovf_full := fun _ => hl, checked := by simp [hb] }
  · have hsucc := keylen_succ hl
    refine { h with
      keylen_le := ?_, keyovf_full := ?_, key_wf := Memory.write_wf _ _ h.key_wf, key_below := ?_, checked := ?_ }
    · rw [hsucc]
      exact hl
    · simp [ho]
    · intro c hc
      rw [hsucc]
      rcases Memory.mem_write hc with hc | hc
      · omega
      · exact (h.key_below c hc).trans (Nat.lt_succ_self _)
    · simp [hb]

theorem GoodState.accept (h : GoodState s) (op : GenOp) : GoodState (s.accept op) :=
  { h with
    busy_iff := by simp
    err_iff := by simp
    busy_not_done := fun _ => rfl
    busy_not_err := fun _ => rfl
    done_not_err := nofun
    results_zero := fun _ => rfl
    scratch_zero := nofun
    checked := fun _ hp => absurd rfl hp }

theorem GoodState.acknowledge (h : GoodState s) (hb : s.busy = false) : GoodState s.acknowledge :=
  { h with
    err_iff := by simp
    busy_not_done := fun _ => rfl
    busy_not_err := fun _ => rfl
    done_not_err := nofun
    results_zero := fun _ => rfl
    checked := by simp [hb] }

theorem GoodState.illegalCommand (h : GoodState s) (hb : s.busy = false) : GoodState s.illegalCommand :=
  { h with
    err_iff := by simp
    busy_not_done := fun _ => rfl
    busy_not_err := by simp [hb]
    done_not_err := nofun
    results_zero := fun _ => rfl
    checked := by simp [hb] }

/-! The Core. -/

theorem GoodState.errorCommit {e : ErrCode} (h : GoodState s) (hb : s.busy = true) (he : e ≠ .noError) :
    GoodState (s.errorCommit e) :=
  { h with
    busy_iff := by simp
    err_iff := by simp [he]
    busy_not_done := nofun
    busy_not_err := nofun
    done_not_err := by simp [h.busy_not_done hb]
    scratch_zero := fun _ => rfl
    checked := nofun }

/-- A phase that is neither IDLE nor COMMIT is followed by one that is neither IDLE nor CHECK (R133). -/
theorem nextPhase_between {p : Phase} (hi : p ≠ .idle) (hc : p ≠ .commit) :
    nextPhase p ≠ .idle ∧ nextPhase p ≠ .check := by
  cases p <;> simp_all [nextPhase]

/-- A phase that goes on to the next keeps the invariants, whatever it puts into scratch. -/
theorem GoodState.advance {sc : Scratch} {p : Phase} (h : GoodState s) (hb : s.busy = true) (hp : p ≠ .idle)
    (hc : checkErrors sc.op s = .noError) : GoodState { s with scratch := sc, phase := p } :=
  { h with
    busy_iff := by simp [hb, hp]
    scratch_zero := by simp [hb]
    checked := fun _ _ => (checkErrors_congr (SameOperands.refl s) rfl rfl).trans hc }

theorem GoodState.commit (h : GoodState s) (hb : s.busy = true) (r : Results) :
    GoodState { s.clearScratch with results := r, done := true, busy := false, phase := .idle } :=
  { h with
    busy_iff := by simp
    busy_not_done := nofun
    busy_not_err := nofun
    done_not_err := fun _ => h.busy_not_err hb
    results_zero := nofun
    scratch_zero := fun _ => rfl
    checked := nofun }

/-- The Core keeps the invariants. -/
theorem GoodState.afterCoreStep (h : GoodState s) (hc : coreStep s = .next t) : GoodState t := by
  rcases coreStep_cases hc with ⟨-, rfl⟩ | ⟨hb, -, he, rfl⟩ | ⟨hb, -, he, rfl⟩ |
    ⟨hb, hi, hk, hm, sc, hop, rfl⟩ | ⟨hb, -, a, -, rfl⟩
  · exact h
  · exact h.advance (sc := s.scratch) hb nofun he
  · exact h.errorCommit hb he
  · exact h.advance hb (nextPhase_between hi hm).1 (hop ▸ h.checked hb hk)
  · exact h.commit hb _

end Sys2Proof.Machine
end

/-! ## Progress (R135) -/

section
namespace Sys2Proof.Machine

variable {s t : State}

/-- In a good state the Core is never stuck: past CHECK every unit is defined. -/
theorem GoodState.coreStep_next (h : GoodState s) : ∃ t, coreStep s = .next t := by
  cases hb : s.busy
  case false => exact ⟨s, coreStep_idle hb⟩
  by_cases hcheck : s.phase = .check
  · by_cases he : checkErrors s.scratch.op s = .noError
    · exact ⟨_, coreStep_check hb hcheck he⟩
    · exact ⟨_, coreStep_check_error hb hcheck he⟩
  obtain ⟨-, hd, halg, hgent, -, -⟩ := checkErrors_noError (h.checked hb hcheck)
  obtain ⟨a, ha⟩ := selectHash_of_le halg
  obtain ⟨mf, hmf⟩ := movingFactor_of hgent
  cases hp : s.phase with
  | idle => exact absurd hp (h.busy_iff.1 hb)
  | check => exact absurd hp hcheck
  | mfsel => exact ⟨_, coreStep_mfsel hb hp hmf⟩
  | encode => exact ⟨_, coreStep_encode hb hp⟩
  | keyprep => exact ⟨_, coreStep_keyprep hb hp ha rfl⟩
  | inner => exact ⟨_, coreStep_inner hb hp ha⟩
  | outer => exact ⟨_, coreStep_outer hb hp ha⟩
  | trunc => exact ⟨_, coreStep_trunc hb hp ha⟩
  | reduce => exact ⟨_, coreStep_reduce hb hp (reduceCode_of_le hd)⟩
  | format => exact ⟨_, coreStep_format hb hp (formatCode_of_le hd)⟩
  | commit => exact ⟨_, coreStep_commit hb hp ha⟩

theorem whenIdle_next {r : Result} (h : ∃ t, r = .next t) : ∃ t, whenIdle s r = .next t := by
  cases hb : s.busy
  · rwa [whenIdle_idle _ hb]
  · exact ⟨_, whenIdle_busy _ hb⟩

/-- With KEYLEN at most KEY_MAX, KEYB writes no byte outside the key memory (R51, R122, R123). -/
theorem appendKey_next (b : Byte) (hl : s.keylen.toNat ≤ Config.keyMax) : ∃ t, s.appendKey b = .next t := by
  cases ho : s.keyovf
  · rcases hl.lt_or_eq with hl | hl
    · exact ⟨_, appendKey_room b ho hl⟩
    · exact ⟨_, appendKey_full b ho hl⟩
  · exact ⟨_, appendKey_overflowed b ho⟩

theorem exec_next (i : Instr) (hl : s.keylen.toNat ≤ Config.keyMax) : ∃ t, exec i s = .next t := by
  cases i with
  | srst => exact ⟨_, rfl⟩
  | keyb b => exact whenIdle_next (appendKey_next b hl)
  | _ => exact whenIdle_next ⟨_, rfl⟩

theorem execCommand_next (w : Word) (hl : s.keylen.toNat ≤ Config.keyMax) : ∃ t, execCommand w s = .next t := by
  unfold execCommand
  split
  · exact exec_next _ hl
  · exact whenIdle_next ⟨_, rfl⟩

theorem regWrite_next (i : Fin 64) (v : Word) (hl : s.keylen.toNat ≤ Config.keyMax) :
    ∃ t, regWrite i v s = .next t := by
  unfold regWrite
  split
  · exact execCommand_next v hl
  · exact ⟨_, rfl⟩
  · split
    · exact whenIdle_next ⟨_, rfl⟩
    · exact ⟨_, rfl⟩
  · exact ⟨_, rfl⟩

theorem GoodState.runEvent_next (h : GoodState s) (e : Event) : ∃ t, runEvent e s = .next t := by
  cases e with
  | regRead i => exact ⟨_, rfl⟩
  | regWrite i v => exact regWrite_next i v h.keylen_le
  | core => exact h.coreStep_next
  | reset => exact ⟨_, rfl⟩
  | wait =>
    simp only [runEvent, waitPoll]
    split <;> exact ⟨_, rfl⟩

/-! ## Schedule independence (R61, R145) -/

/-- A Core step changes no operand register, no part of the key, no IEN or WRDROP, and nothing of the Host's (R90). -/
theorem coreStep_frame (h : coreStep s = .next t) :
    SameOperands s t ∧ SameKey s t ∧ SameHostSide s t ∧ t.ien = s.ien ∧ t.wrdrop = s.wrdrop := by
  rcases coreStep_cases h with ⟨-, rfl⟩ | ⟨-, -, -, rfl⟩ | ⟨-, -, -, rfl⟩ | ⟨-, -, -, -, sc, -, rfl⟩ |
    ⟨-, -, a, -, rfl⟩ <;>
    exact ⟨⟨rfl, rfl, rfl, rfl, rfl, rfl, rfl, rfl, rfl, rfl⟩, ⟨rfl, rfl, rfl⟩, ⟨rfl, rfl⟩, rfl, rfl⟩

/-- While the operation goes on, s_op stays. -/
theorem coreStep_op (h : coreStep s = .next t) (hb : t.busy = true) : t.scratch.op = s.scratch.op := by
  rcases coreStep_cases h with ⟨-, rfl⟩ | ⟨-, -, -, rfl⟩ | ⟨-, -, -, rfl⟩ | ⟨-, -, -, -, sc, hop, rfl⟩ |
    ⟨-, -, a, -, rfl⟩
  · rfl
  · rfl
  · cases hb
  · exact hop
  · cases hb

theorem bigStep_busy (op : GenOp) (s : State) : (bigStep op s).busy = false := by
  unfold bigStep
  split <;> rfl

/-- The big step overwrites the operation in flight and depends on everything else alone. -/
theorem bigStep_eq {op : GenOp} (ho : SameOperands s t) (hk : SameKey s t) (hh : SameHostSide s t)
    (hi : t.ien = s.ien) (hw : t.wrdrop = s.wrdrop) : bigStep op t = bigStep op s := by
  have hs : t.secret = s.secret := secret_congr hk.keylen fun a _ => by rw [hk.key]
  simp only [bigStep, checkErrors_congr (op := op) ho hk.keylen hk.keyovf, bigStepResults_congr (op := op) ho hs]
  split <;> simp [ho.alg, ho.digits, ho.ctrLo, ho.ctrHi, ho.nowLo, ho.nowHi, ho.t0Lo, ho.t0Hi, ho.stepLo, ho.stepHi,
    hk.key, hk.keylen, hk.keyovf, hh.pending, hh.replies, hi, hw]

/-- A busy operation on course has, after a Core step, nine steps to go. -/
theorem OnCourse.coreRun_nine (h : OnCourse s) (hb : s.busy = true) (hc : coreStep s = .next t) :
    coreRun 9 t = .next (bigStep s.scratch.op s) := by
  rw [← coreRun_succ hc]
  exact h hb

/-- The Core keeps the operation on course. -/
theorem OnCourse.afterCoreStep (h : OnCourse s) (hc : coreStep s = .next t) : OnCourse t := by
  intro htb
  cases hb : s.busy
  case false =>
    rw [coreStep_idle hb] at hc
    cases hc
    exact h htb
  obtain ⟨ho, hk, hh, hi, hw⟩ := coreStep_frame hc
  rw [coreRun_last (h.coreRun_nine hb hc), coreStep_idle (bigStep_busy ..), coreStep_op hc htb,
    bigStep_eq ho hk hh hi hw]

/-- The step that ends the operation leaves its big-step outcome. -/
theorem OnCourse.ends_in_bigStep (h : OnCourse s) (hb : s.busy = true) (hc : coreStep s = .next t)
    (htb : t.busy = false) : t = bigStep s.scratch.op s := by
  have hrun := h.coreRun_nine hb hc
  rw [coreRun_idle 9 htb] at hrun
  cases hrun
  rfl

theorem OnCourse.withInterface (h : OnCourse s) (p : List Event) (r : List Word) (w : Bool) (i : BitVec 2) :
    OnCourse (s.withInterface p r w i) := by
  intro hb
  rw [coreRun_withInterface p r w i (h hb), withInterface_scratch, bigStep_withInterface]

theorem OnCourse.withPending (h : OnCourse s) (es : List Event) : OnCourse (s.withPending es) :=
  h.withInterface es s.replies s.wrdrop s.ien

/-- An idle state is on course. -/
theorem onCourse_of_idle (hb : s.busy = false) : OnCourse s := fun h => by simp [hb] at h

theorem onCourse_accept (op : GenOp) (s : State) : OnCourse (s.accept op) := fun _ => by
  rw [coreRun_accept, State.accept_scratch, bigStep_accept]

/-- Every kind of step keeps the operation on course. -/
theorem OnCourse.afterStep (h : OnCourse s) (hstep : StepOutcome s t) : OnCourse t := by
  cases hstep with
  | core rest _ hc => exact (h.withPending rest).afterCoreStep hc
  | reset => exact onCourse_of_idle rfl
  | interface p r i => exact h.withInterface p r s.wrdrop i
  | @dropped _ _ rest => exact h.withInterface rest s.replies true s.ien
  | operand rest r v hb =>
    obtain ⟨-, ho, -⟩ := storeOperand_frame r v (s.withPending rest)
    exact onCourse_of_idle (ho.busy.trans hb)
  | srst => exact onCourse_of_idle rfl
  | keyclr rest hb => exact onCourse_of_idle (by simpa using hb)
  | keyb rest _ hb _ hk =>
    obtain ⟨-, ho, -⟩ := appendKey_frame hk
    exact onCourse_of_idle (ho.busy.trans hb)
  | accept rest op => exact onCourse_accept op _
  | ack rest hb => exact onCourse_of_idle (by simpa using hb)
  | illegal rest hb => exact onCourse_of_idle (by simpa using hb)

end Sys2Proof.Machine
end

/-! ## The register window (R21, R72, R73) -/

section
namespace Sys2Proof.Machine

variable {s t : State}

/-- A read of a register's offset is the register's read. -/
@[simp] theorem regRead_regIndex (r : Reg) (s : State) : regRead (regIndex r) s = s.readReg r := by
  simp [regRead, regAt_regIndex]

/-- No register stands at two offsets. -/
theorem eq_regIndex_of_regAt {i : Fin 64} {r : Reg} (h : regAt i = some r) : i = regIndex r := by
  have hall : ∀ i : Fin 64, ∀ r ∈ regAt i, i = regIndex r := by decide
  exact hall i r h

theorem regRead_reserved {i : Fin 64} (h : regAt i = none) (s : State) : regRead i s = 0 := by simp [regRead, h]

/-- What each register reads as after a write to an operand register: the word in that one, as before in every other. -/
theorem readReg_storeOperand (r q : Reg) (v : Word) (s : State) :
    (s.storeOperand r v).readReg q = if isOperand r = true ∧ q = r then v else s.readReg q := by
  cases r <;> cases q <;> rfl

/-- A write to an operand register is taken while idle. -/
theorem regWrite_operand {i : Fin 64} {r : Reg} (hr : regAt i = some r) (ho : isOperand r = true) (v : Word) :
    regWrite i v s = whenIdle s (.next (s.storeOperand r v)) := by
  obtain rfl := eq_regIndex_of_regAt hr
  cases r
  case alg | digits | ctrLo | ctrHi | nowLo | nowHi | t0Lo | t0Hi | stepLo | stepHi => rfl
  all_goals cases ho

theorem regWrite_readOnly {i : Fin 64} {r : Reg} (hr : regAt i = some r) (ho : isOperand r = false) (hc : r ≠ .cmd)
    (hi : r ≠ .ien) (v : Word) : regWrite i v s = .next s := by
  unfold regWrite
  split <;> simp_all

theorem regWrite_reserved {i : Fin 64} (h : regAt i = none) (v : Word) : regWrite i v s = .next s := by
  simp [regWrite, h]

theorem regWrite_ien (v : Word) : regWrite (regIndex .ien) v s = .next (s.storeIen v) := rfl

/-! ### The bits of STATUS -/

theorem getLsbD_bit (b : Bool) (k : Nat) : (bit b).getLsbD k = (b && decide (k = 0)) := by
  cases b <;> simp [bit]

/-- A number of few bits has no bit above them. -/
theorem getLsbD_ofNat_of_lt {n k m : Nat} (h : n < 2 ^ m) (hk : m ≤ k) : (BitVec.ofNat 32 n).getLsbD k = false := by
  rw [BitVec.getLsbD_ofNat, Nat.testBit_lt_two_pow (h.trans_le (Nat.pow_le_pow_right (by decide) hk)), Bool.and_false]

/-- A short register shown in a word has no bit above its width. -/
theorem getLsbD_setWidth_of_le {n : Nat} (x : BitVec n) (k : Nat) (h : n ≤ k) : (x.setWidth 32).getLsbD k = false := by
  rw [BitVec.getLsbD_setWidth, BitVec.getLsbD_of_ge x k h, Bool.and_false]

theorem phaseNumber_lt (p : Phase) : phaseNumber p < 2 ^ 4 := by cases p <;> decide

theorem errNumber_lt (e : ErrCode) : errNumber e < 2 ^ 3 := by cases e <;> decide

theorem getLsbD_bit_shiftLeft (b : Bool) {n : Nat} (hn : n < 32) (k : Nat) :
    (bit b <<< n).getLsbD k = (b && decide (k = n)) := by
  rw [BitVec.getLsbD_shiftLeft, getLsbD_bit]
  cases b
  · simp
  · simp only [Bool.true_and, ← Bool.decide_and, ← decide_not]
    exact decide_eq_decide.2 (by omega)

/-- STATUS bit by bit: the five flags in bits 0 to 4, the number of PHASE from bit 8 on (R32). -/
theorem getLsbD_statusWord (s : State) (k : Nat) :
    s.statusWord.getLsbD k =
      ((decide (k < 32) && !decide (k < 8) && (BitVec.ofNat 32 (phaseNumber s.phase)).getLsbD (k - 8)) ||
        (s.keyovf && decide (k = 4)) || (s.wrdrop && decide (k = 3)) || (s.err && decide (k = 2)) ||
        (s.done && decide (k = 1)) || (s.busy && decide (k = 0))) := by
  simp only [State.statusWord, BitVec.getLsbD_or, getLsbD_bit, getLsbD_bit_shiftLeft _ (show 4 < 32 by decide),
    getLsbD_bit_shiftLeft _ (show 3 < 32 by decide), getLsbD_bit_shiftLeft _ (show 2 < 32 by decide),
    getLsbD_bit_shiftLeft _ (show 1 < 32 by decide), BitVec.getLsbD_shiftLeft]

/-- PHASE stands in bits 11:8 (R32). -/
theorem statusWord_phase (s : State) : s.statusWord.extractLsb' 8 4 = BitVec.ofNat 4 (phaseNumber s.phase) := by
  refine BitVec.eq_of_getLsbD_eq fun i hi => ?_
  rw [BitVec.getLsbD_extractLsb', getLsbD_statusWord, BitVec.getLsbD_ofNat, BitVec.getLsbD_ofNat]
  have hflag : ∀ n < 8, decide (8 + i = n) = false := fun n hn => decide_eq_false (by omega)
  simp [hi, hflag, show 8 + i < 32 by omega, show i < 32 by omega]

theorem statusWord_reserved {k : Nat} (h : (5 ≤ k ∧ k ≤ 7) ∨ 12 ≤ k) : s.statusWord.getLsbD k = false := by
  have hphase : 12 ≤ k → (BitVec.ofNat 32 (phaseNumber s.phase)).getLsbD (k - 8) = false := fun hk =>
    getLsbD_ofNat_of_lt (phaseNumber_lt _) (by omega)
  rw [getLsbD_statusWord]
  rcases h with ⟨h5, h7⟩ | h12
  · simp [show ¬ 8 ≤ k by omega]
    omega
  · simp [hphase h12]
    omega

/-- No register shows the key memory. -/
theorem readReg_key (s : State) (k : Memory) (r : Reg) : ({ s with key := k } : State).readReg r = s.readReg r := by
  cases r <;> rfl

/-- Cleared results read 0 in every result register. -/
theorem readReg_results_zero {r : Reg} (h : s.results = Results.zero) (hr : isResult r = true) : s.readReg r = 0 := by
  cases r <;> simp_all [State.readReg, Results.zero, isResult]

end Sys2Proof.Machine
end

/-! ## The result commit (R43 to R49, R143) -/

section
namespace Sys2Proof.Machine

/-- The number of four bytes as a word is the bytes put one after another (R76). -/
theorem ofNat_bytesVal_four (a b c d : Byte) : BitVec.ofNat 32 (bytesVal [a, b, c, d]) = a ++ b ++ c ++ d := by
  have append_toNat {n : Nat} (x : BitVec n) (y : Byte) : (x ++ y).toNat = x.toNat * 256 + y.toNat := by
    rw [BitVec.toNat_append, ← Nat.shiftLeft_add_eq_or_of_lt y.isLt, Nat.shiftLeft_eq]
  refine BitVec.eq_of_toNat_eq ?_
  rw [append_toNat, append_toNat, append_toNat, BitVec.toNat_ofNat]
  simp only [bytesVal_cons, bytesVal_nil, List.length_cons, List.length_nil]
  omega

/-- Word i of a byte string is its bytes 4i to 4i + 3, the first in the most significant place. -/
theorem wordAt_eq_append {s : List Byte} {i : Nat} (h : 4 * i + 3 < s.length) :
    wordAt s i = s[4 * i] ++ s[4 * i + 1] ++ s[4 * i + 2] ++ s[4 * i + 3] := by
  have hbytes : (s.drop (4 * i)).take 4 = [s[4 * i], s[4 * i + 1], s[4 * i + 2], s[4 * i + 3]] := by
    iterate 4 rw [List.drop_eq_getElem_cons (by omega)]
    rfl
  rw [wordAt, hbytes, ofNat_bytesVal_four]

theorem macWords_getElem (mac : List Byte) (i : Fin 16) : (macWords mac)[i] = wordAt mac i.val := by
  simp [macWords]

end Sys2Proof.Machine
end

/-! ## What changes the key, the results and WRDROP -/

section
namespace Sys2Proof.Machine

variable {s t : State} {es : List Event}

theorem sameKey_of_withPending (h : SameKey (s.withPending es) t) : SameKey s t := ⟨h.key, h.keylen, h.keyovf⟩

/-- A WRDROP that stays neither falls nor rises. -/
theorem wrdrop_unchanged {p q : Prop} (h : t.wrdrop = s.wrdrop) :
    (s.wrdrop = true → t.wrdrop = false → p) ∧ (s.wrdrop = false → t.wrdrop = true → q) := by
  rw [h]
  exact ⟨fun h1 h0 => Bool.noConfusion (h1.symm.trans h0), fun h0 h1 => Bool.noConfusion (h1.symm.trans h0)⟩

end Sys2Proof.Machine
end

/-! ## The statements settled -/

section
namespace Sys2Proof.Machine

/-- Settles O56: each kind of step keeps the invariants. -/
theorem stepKeepsGoodState : Obligations.StepKeepsGoodState := by
  intro s t h hstep
  cases step_outcome hstep with
  | core rest _ hc => exact (h.withPending rest).afterCoreStep hc
  | reset => exact goodState_hardReset _
  | interface p r i => exact h.withInterface p r s.wrdrop i
  | @dropped _ _ rest => exact h.withInterface rest s.replies true s.ien
  | operand rest r v hb => exact (h.withPending rest).storeOperand hb r v
  | srst => exact goodState_softReset _
  | keyclr rest hb => exact (h.withPending rest).clearKey hb
  | keyb rest _ hb _ hk => exact (h.withPending rest).appendKey hb hk
  | accept rest op => exact (h.withPending rest).accept op
  | ack rest hb => exact (h.withPending rest).acknowledge hb
  | illegal rest hb => exact (h.withPending rest).illegalCommand hb

/-- Settles O57: whatever the next event, it answers a next state. -/
theorem stepFromGoodStateAnswersNext : Obligations.StepFromGoodStateAnswersNext := by
  intro s h
  cases hp : s.pending with
  | nil => exact step_core hp ▸ h.coreStep_next
  | cons e rest => exact step_event hp ▸ (h.withPending rest).runEvent_next e

/-- Settles O58: the Host cannot take the operation off its course, and the step that ends it leaves the outcome. -/
theorem everyScheduleReachesBigStep : Obligations.EveryScheduleReachesBigStep :=
  ⟨fun _ _ _ h hstep => h.afterStep (step_outcome hstep), fun _ _ _ h hb hc htb => h.ends_in_bigStep hb hc htb⟩

/-- Settles O19: the commit step by its lemma, then each register read back; words of bytes by `wordAt_eq_append`. -/
theorem resultCommitShowsScratch : Obligations.ResultCommitShowsScratch := by
  intro s a hb hp ha hd1 hd8
  refine ⟨_, coreStep_commit hb hp ha, ?_⟩
  simp only [regRead_regIndex, State.readReg, committedResults]
  refine ⟨rfl, trivial, trivial, ?_, fun i => ?_, ?_, ?_, ?_, ?_, ?_, ?_⟩
  · cases a <;> rfl
  · rw [macWords_getElem, wordAt_eq_append (by simp; omega)]
    simp
  · simp; omega
  · simp; omega
  · simp; omega
  · refine BitVec.eq_of_toNat_eq ?_
    simp; omega
  · rw [wordAt_eq_append (by simp)]
    simp
  · rw [wordAt_eq_append (by simp)]
    simp

/-- Settles O22: both runs end in the big step, which sees only what the two states share. -/
theorem outcomeIsStateless : Obligations.OutcomeIsStateless := by
  intro op s u hops hl ho hkey
  exact ⟨_, _, coreRun_accept op s, coreRun_accept op u, bigStep_congr hops hl ho (secret_congr hl hkey)⟩

/-- Settles O40: the write is taken while idle, and every other register reads past it. -/
theorem operandWriteReadsBack : Obligations.OperandWriteReadsBack := by
  intro s i r v hb hr ho
  obtain rfl := eq_regIndex_of_regAt hr
  obtain ⟨hk, hop, hh, hien, hw⟩ := storeOperand_frame r v s
  refine ⟨_, (regWrite_operand hr ho v).trans (whenIdle_idle _ hb), ?_, fun j hj => ?_, hk, hop, hh, hien, hw⟩
  · simp [readReg_storeOperand, ho]
  · cases hq : regAt j with
    | none => rw [regRead_reserved hq, regRead_reserved hq]
    | some q =>
      obtain rfl := eq_regIndex_of_regAt hq
      have hne : q ≠ r := fun h => hj (h ▸ rfl)
      simp [readReg_storeOperand, hne]

/-- Settles O44: a field of n bits has no bit at or above n; STATUS by its bits. -/
theorem reservedBitsReadZero : Obligations.ReservedBitsReadZero := by
  intro s
  simp only [regRead_regIndex, State.readReg]
  exact ⟨fun k => statusWord_reserved, fun k => getLsbD_ofNat_of_lt (errNumber_lt _), getLsbD_setWidth_of_le _,
    getLsbD_setWidth_of_le _, getLsbD_setWidth_of_le _ 31 le_rfl, getLsbD_setWidth_of_le _, getLsbD_setWidth_of_le _,
    getLsbD_setWidth_of_le _⟩

/-- Settles O50: of the kinds of step, only Reset, SRST, KEYCLR and KEYB touch the key. -/
theorem keyChangesOnlyByKeyCommands : Obligations.KeyChangesOnlyByKeyCommands := by
  intro s t hstep hkey
  cases step_outcome hstep with
  | core rest _ hc =>
    obtain ⟨-, hk, -⟩ := coreStep_frame hc
    exact absurd (sameKey_of_withPending hk) hkey
  | reset rest hp => exact .inl ⟨rest, hp⟩
  | operand rest r v hb =>
    obtain ⟨hk, -⟩ := storeOperand_frame r v (s.withPending rest)
    exact absurd (sameKey_of_withPending hk) hkey
  | srst rest hn => exact .inr ⟨_, hn, .inl rfl⟩
  | keyclr rest hb hn => exact .inr ⟨_, hn, .inr ⟨hb, .inl rfl⟩⟩
  | keyb rest b hb hn => exact .inr ⟨_, hn, .inr ⟨hb, .inr ⟨b, rfl⟩⟩⟩
  | interface p r i => exact absurd (withInterface_sameKey ..) hkey
  | _ => exact absurd (by constructor <;> simp) hkey

/-- Settles O52: of the kinds of step, those that clear the results, and the Core in COMMIT. -/
theorem resultsChangeOnlyTogether : Obligations.ResultsChangeOnlyTogether := by
  intro s t hstep hres
  cases step_outcome hstep with
  | core rest hp hc =>
    rcases coreStep_cases hc with ⟨-, rfl⟩ | ⟨-, -, -, rfl⟩ | ⟨-, -, -, rfl⟩ | ⟨-, -, -, -, sc, -, rfl⟩ |
      ⟨hb, hcommit, a, -, rfl⟩
    · exact absurd rfl hres
    · exact absurd rfl hres
    · exact absurd rfl hres
    · exact absurd rfl hres
    · exact .inr ⟨hb, hcommit, rfl, rfl, hp.symm.imp_right fun hp => ⟨rest, hp⟩⟩
  | reset rest hp => exact .inl ⟨rfl, .inl ⟨rest, hp⟩⟩
  | operand rest r v hb =>
    obtain ⟨-, hop, -⟩ := storeOperand_frame r v (s.withPending rest)
    exact absurd hop.results hres
  | srst rest hn => exact .inl ⟨rfl, .inr ⟨_, hn, .inl rfl⟩⟩
  | keyb rest b hb hn hk =>
    obtain ⟨-, hop, -⟩ := appendKey_frame hk
    exact absurd hop.results hres
  | accept rest op hb hn =>
    rcases hn with hn | hn
    · exact .inl ⟨rfl, .inr ⟨_, hn, .inr ⟨hb, .inl rfl⟩⟩⟩
    · exact .inl ⟨rfl, .inr ⟨_, hn, .inr ⟨hb, .inr (.inl rfl)⟩⟩⟩
  | ack rest hb hn => exact .inl ⟨rfl, .inr ⟨_, hn, .inr ⟨hb, .inr (.inr (.inl rfl))⟩⟩⟩
  | illegal rest hb hn hd => exact .inl ⟨rfl, .inr ⟨_, hn, .inr ⟨hb, .inr (.inr (.inr ⟨_, hd⟩))⟩⟩⟩
  | _ => exact absurd (by simp) hres

/-- Settles O53: of the kinds of step, only a dropped write raises WRDROP, and only the resets and ACK clear it. -/
theorem wrdropRecordsDrops : Obligations.WrdropRecordsDrops := by
  intro s t hstep
  cases step_outcome hstep with
  | core rest hp hc =>
    obtain ⟨-, -, -, -, hw⟩ := coreStep_frame hc
    exact wrdrop_unchanged hw
  | reset rest hp => exact ⟨fun _ _ => .inl ⟨rest, hp⟩, nofun⟩
  | dropped hb hp hd => exact ⟨nofun, fun _ _ => ⟨hb, _, _, _, hp, hd⟩⟩
  | srst rest hn => exact ⟨fun _ _ => .inr (.inl hn), nofun⟩
  | ack rest hb hn => exact ⟨fun _ _ => .inr (.inr ⟨hb, hn⟩), nofun⟩
  | operand rest r v =>
    obtain ⟨-, -, -, -, hw⟩ := storeOperand_frame r v (s.withPending rest)
    exact wrdrop_unchanged hw
  | keyb rest b hb hn hk =>
    obtain ⟨-, -, hw⟩ := appendKey_frame hk
    exact wrdrop_unchanged hw
  | _ => exact wrdrop_unchanged (by simp)

/-- Settles O54: the invariant has the results at 0 while DONE = 0, and each register shows its field. -/
theorem noPartialResults : Obligations.NoPartialResults := by
  intro s r hs hd hr
  rw [regRead_regIndex]
  exact readReg_results_zero (hs.results_zero hd) hr

/-- Settles O18: ERRCODE is read at its offset, whatever the rest of the state. -/
theorem errorNumbers : Obligations.ErrorNumbers := by
  intro s
  simp only [regRead_regIndex]
  exact ⟨rfl, rfl, rfl, rfl, rfl, rfl, rfl, rfl⟩

/-- Settles O38: the two resets by their definitions, the 64 offsets by evaluation in the reset state. -/
theorem resetValues : Obligations.ResetValues :=
  ⟨fun _ => ⟨rfl, rfl⟩, by decide, rfl, rfl, rfl, rfl⟩

/-- Settles O41: BUSY is not looked at, and the two bits kept are the word modulo 4. -/
theorem ienIsWritableAtAnyTime : Obligations.IenIsWritableAtAnyTime := by
  refine ⟨rfl, rfl, fun s v => ⟨_, regWrite_ien v, rfl, ?_⟩⟩
  rw [regRead_regIndex]
  refine BitVec.eq_of_toNat_eq ?_
  have hmask : v.toNat &&& 3 = v.toNat % 4 := Nat.and_two_pow_sub_one_eq_mod v.toNat 2
  simp only [State.readReg, State.storeIen, BitVec.toNat_setWidth, BitVec.toNat_and]
  exact (Nat.mod_eq_of_lt (by omega)).trans hmask.symm

/-- Settles O42: by the lemmas for a read-only register and for a reserved offset. -/
theorem readOnlyWritesAreIgnored : Obligations.ReadOnlyWritesAreIgnored := fun _ _ v =>
  ⟨fun _ hr ho hc hi => regWrite_readOnly hr ho hc hi v, fun h => regWrite_reserved h v⟩

/-- Settles O43: the indices are finite facts, the constant reads follow from the register found. -/
theorem windowLayout : Obligations.WindowLayout := by
  refine ⟨regAt_regIndex, by decide, by decide, fun s => ⟨?_, ?_, fun i h => regRead_reserved h s⟩⟩
  · rw [regRead_regIndex]; rfl
  · rw [regRead_regIndex]; rfl

/-- Settles O45: bit by bit from the form of the STATUS word. -/
theorem statusLayout : Obligations.StatusLayout := by
  refine ⟨rfl, by decide, fun s => ?_⟩
  simp only [regRead_regIndex, State.readReg]
  refine ⟨?_, ?_, ?_, ?_, ?_, ?_, fun k => statusWord_reserved, fun v => ?_, rfl⟩
  iterate 5
    · rw [getLsbD_statusWord]
      simp
  · rw [statusWord_phase]
    cases s.phase <;> rfl
  · exact regWrite_readOnly (regAt_regIndex .status) rfl nofun nofun v

/-- Settles O46: `irq` is that disjunction, and an acceptance clears DONE and ERR. -/
theorem interruptOutput : Obligations.InterruptOutput :=
  ⟨fun s => by simp [State.irq], fun op s => by simp [State.irq]⟩

/-- Settles O47: no register is read from the key memory. -/
theorem keyCannotBeRead : Obligations.KeyCannotBeRead := by
  intro s k i
  cases hr : regAt i with
  | none => rw [regRead_reserved hr, regRead_reserved hr]
  | some r =>
    obtain rfl := eq_regIndex_of_regAt hr
    rw [regRead_regIndex, regRead_regIndex, readReg_key]

/-- Settles O55: the reset state is good, and idle. -/
theorem resetStateIsGood : Obligations.ResetStateIsGood := ⟨goodState_reset, onCourse_of_idle rfl⟩

end Sys2Proof.Machine
end

/-! ## Host access to the memory map (20_memory.md) -/

section
namespace Sys2Proof.Machine

variable {s t : State}

/-! ### Placing and taking events -/

/-- No register shows what is still to come. -/
theorem regRead_withPending (i : Fin 64) (es : List Event) (s : State) : regRead i (s.withPending es) = regRead i s := by
  unfold regRead
  cases regAt i with
  | none => rfl
  | some r => cases r <;> rfl

/-- A poll replies STATUS, and while BUSY = 1 a Core step and the next poll are to come (R109). -/
theorem waitPoll_eq (s : State) :
    waitPoll s = .next { s with
      pending := if s.busy then .core :: .wait :: s.pending else s.pending
      replies := s.statusWord :: s.replies } := by
  by_cases hb : s.busy = true
  · rw [waitPoll, if_pos hb, if_pos hb]
    rfl
  · rw [waitPoll, if_neg hb, if_neg hb]
    rfl

/-- A legal word written to CMD runs its instruction (R100). -/
theorem regWrite_cmd_of_decode {w : Word} {i : Instr} (h : decode w = .ok i) :
    regWrite (regIndex .cmd) w s = exec i s := by
  have hcmd : regWrite (regIndex .cmd) w s = execCommand w s := rfl
  rw [hcmd, execCommand, h]

/-- The event that `withCommand` places is the next one taken, and taking it gives the state back. -/
theorem step_withCommand (w : Word) (s : State) : step (s.withCommand w) = regWrite (regIndex .cmd) w s := rfl

/-! ### Accesses to the window (R77, R80) -/

/-- An aligned 32-bit access inside the window is the transaction of its register (R70). -/
theorem busRead_aligned (i : Fin 64) : busRead (4 * i.val) 32 = some (.transaction (.regRead i)) := by
  simp [busRead, isTransaction, show 4 * i.val < 256 by omega]

theorem busWrite_aligned (i : Fin 64) (v : Word) :
    busWrite (4 * i.val) 32 v = some (.transaction (.regWrite i v)) := by
  simp [busWrite, isTransaction, show 4 * i.val < 256 by omega]

theorem busRead_rejected {offset width : Nat} (hno : ¬ (width = 32 ∧ offset % 4 = 0)) (hin : offset < 256) :
    busRead offset width = some (.rejected (some 0)) := by
  simp [busRead, isTransaction, hin, hno]

theorem busWrite_rejected {offset width : Nat} (hno : ¬ (width = 32 ∧ offset % 4 = 0)) (hin : offset < 256) (v : Word) :
    busWrite offset width v = some (.rejected none) := by
  simp [busWrite, isTransaction, hin, hno]

theorem busRead_outside {offset : Nat} (hout : 256 ≤ offset) (width : Nat) : busRead offset width = none :=
  dif_neg (by omega)

theorem busWrite_outside {offset : Nat} (hout : 256 ≤ offset) (width : Nat) (v : Word) :
    busWrite offset width v = none :=
  dif_neg (by omega)

/-! ### What changes the operand registers and IEN (R90, R233) -/

theorem sameOperands_of_withPending {es : List Event} (h : SameOperands (s.withPending es) t) : SameOperands s t :=
  ⟨h.alg, h.digits, h.ctrLo, h.ctrHi, h.nowLo, h.nowHi, h.t0Lo, h.t0Hi, h.stepLo, h.stepHi⟩

theorem appendKey_ien {b : Byte} (h : s.appendKey b = .next t) : t.ien = s.ien := by
  rcases appendKey_cases h with ⟨-, rfl⟩ | ⟨-, -, rfl⟩ | ⟨-, -, rfl⟩ <;> rfl

/-- No command writes IEN, and none but SRST an operand register (R233). -/
theorem exec_hostRegisters {i : Instr} (h : exec i s = .next t) :
    t.ien = s.ien ∧ (i = .srst ∨ SameOperands s t) := by
  rcases exec_cases h with ⟨rfl, rfl⟩ | ⟨-, -, rfl⟩ | ⟨-, hi⟩
  · exact ⟨rfl, .inl rfl⟩
  · exact ⟨rfl, .inr (by constructor <;> simp)⟩
  · rcases hi with ⟨-, rfl⟩ | ⟨-, rfl⟩ | ⟨b, -, hk⟩ | ⟨-, rfl⟩ | ⟨-, rfl⟩ | ⟨-, rfl⟩
    · exact ⟨rfl, .inr (.refl _)⟩
    · exact ⟨rfl, .inr (by constructor <;> simp)⟩
    · obtain ⟨ho, -⟩ := appendKey_frame hk
      exact ⟨appendKey_ien hk, .inr ho⟩
    · exact ⟨rfl, .inr (accept_sameOperands ..)⟩
    · exact ⟨rfl, .inr (accept_sameOperands ..)⟩
    · exact ⟨rfl, .inr (by constructor <;> simp)⟩

/-- Neither does an illegal word (R252). -/
theorem execCommand_hostRegisters {w : Word} (h : execCommand w s = .next t) :
    t.ien = s.ien ∧ (w = encode .srst ∨ SameOperands s t) := by
  rcases execCommand_cases h with ⟨i, hd, hx⟩ | ⟨e, -, ⟨-, rfl⟩ | ⟨-, rfl⟩⟩
  · obtain rfl := eq_encode_of_decode hd
    obtain ⟨hien, hop⟩ := exec_hostRegisters hx
    exact ⟨hien, hop.imp_left (congrArg encode)⟩
  · exact ⟨rfl, .inr (by constructor <;> simp)⟩
  · exact ⟨rfl, .inr (by constructor <;> simp)⟩

/-- A host write that changes IEN is one to IEN; one that changes an operand register is SRST or, while idle, a write to
an operand register (R73). -/
theorem regWrite_hostRegisters {i : Fin 64} {v : Word} (h : regWrite i v s = .next t) :
    (i = regIndex .ien ∨ t.ien = s.ien) ∧
      ((i = regIndex .cmd ∧ v = encode .srst) ∨
        (s.busy = false ∧ ∃ r, regAt i = some r ∧ isOperand r = true) ∨ SameOperands s t) := by
  rcases regWrite_cases h with ⟨hi, hc⟩ | ⟨hi, rfl⟩ | ⟨r, hr, ho, ⟨-, rfl⟩ | ⟨hb, rfl⟩⟩ | rfl
  · obtain ⟨hien, hop⟩ := execCommand_hostRegisters hc
    exact ⟨.inr hien, hop.imp (fun hv => ⟨eq_cmd_of_regAt hi, hv⟩) .inr⟩
  · exact ⟨.inl (eq_ien_of_regAt hi), .inr (.inr (by constructor <;> rfl))⟩
  · exact ⟨.inr rfl, .inr (.inr (by constructor <;> simp))⟩
  · obtain ⟨-, -, -, hien, -⟩ := storeOperand_frame r v _
    exact ⟨.inr hien, .inr (.inl ⟨hb, r, hr, ho⟩)⟩
  · exact ⟨.inr rfl, .inr (.inr (.refl _))⟩

/-- Of the events, only Reset and a host write change the operand registers or IEN. -/
theorem runEvent_hostRegisters {e : Event} (h : runEvent e s = .next t) :
    e = .reset ∨ (∃ i v, e = .regWrite i v ∧ regWrite i v s = .next t) ∨ (t.ien = s.ien ∧ SameOperands s t) := by
  rcases runEvent_cases h with ⟨i, -, rfl⟩ | hw | ⟨-, hc⟩ | ⟨he, -⟩ | ⟨-, -, rfl⟩ | ⟨-, -, rfl⟩
  · exact .inr (.inr ⟨rfl, by constructor <;> rfl⟩)
  · exact .inr (.inl hw)
  · obtain ⟨ho, -, -, hien, -⟩ := coreStep_frame hc
    exact .inr (.inr ⟨hien, ho⟩)
  · exact .inl he
  · exact .inr (.inr ⟨rfl, by constructor <;> rfl⟩)
  · exact .inr (.inr ⟨rfl, by constructor <;> rfl⟩)

/-! ### The statements of 20_memory.md -/

/-- Settles O24: an idle Core has no step, and the frame of a step holds the key as one list, so every byte of it. -/
theorem coreStepFrame : Obligations.CoreStepFrame := by
  refine ⟨fun s hb => coreStep_idle hb, fun s t h => ?_⟩
  obtain ⟨hop, hkey, hhost, hien, hdrop⟩ := coreStep_frame h
  exact ⟨hop, hkey, hhost, hien, hdrop, fun a => by rw [hkey.key]⟩

/-- Settles O51: of the events only Reset and a host write touch these registers, and of the host writes only those
named. -/
theorem hostRegistersChangeOnlyByHost : Obligations.HostRegistersChangeOnlyByHost := by
  intro s t hstep
  rcases step_cases hstep with ⟨e, rest, hp, he⟩ | ⟨-, hc⟩
  · rcases runEvent_hostRegisters he with rfl | ⟨i, v, rfl, hw⟩ | ⟨hien, hop⟩
    · exact ⟨fun _ => .inl ⟨rest, hp⟩, fun _ => .inl ⟨rest, hp⟩⟩
    · obtain ⟨hien, hop⟩ := regWrite_hostRegisters hw
      refine ⟨fun hne => ?_, fun hne => ?_⟩
      · obtain rfl := hien.resolve_right hne
        exact .inr ⟨v, rest, hp⟩
      · rcases hop with ⟨rfl, rfl⟩ | ⟨hb, r, hr, ho⟩ | hop
        · exact .inr (.inl (nextCommand_of_pending hp))
        · exact .inr (.inr ⟨i, r, v, rest, hp, hb, hr, ho⟩)
        · exact absurd (sameOperands_of_withPending hop) hne
    · exact ⟨fun hne => absurd hien hne, fun hne => absurd (sameOperands_of_withPending hop) hne⟩
  · obtain ⟨hop, -, -, hien, -⟩ := coreStep_frame hc
    exact ⟨fun hne => absurd hien hne, fun hne => absurd hop hne⟩

/-- Settles O5: the step takes the event, and a write to CMD runs what its word decodes to; a 32-bit word is placed
whole. -/
theorem stepRunsDecodedCommand : Obligations.StepRunsDecodedCommand := by
  refine ⟨fun s w i rest hd hp => ?_, fun s w i hd => ?_⟩
  · calc step s = regWrite (regIndex .cmd) w (s.withPending rest) := step_event hp
      _ = exec i (s.withPending rest) := regWrite_cmd_of_decode hd
  · have hw : BitVec.ofNat 32 (w.toNat % 2 ^ 32) = w := by
      rw [Nat.mod_eq_of_lt w.isLt, BitVec.ofNat_toNat, BitVec.setWidth_eq]
    rw [State.withFetchWord, hw, step_withCommand, regWrite_cmd_of_decode hd]

/-- Settles O6: the event is taken and run; what it reads does not depend on the events still to come. -/
theorem stepRunsEachEvent : Obligations.StepRunsEachEvent := by
  intro s rest
  refine ⟨fun i hp => ?_, fun i v hp => step_event hp, fun hp => step_event hp, fun hp => step_event hp, fun hp => ?_,
    step_core, fun hp hb => (step_core hp).trans (coreStep_idle hb)⟩
  · rw [step_event hp, runEvent, regRead_withPending]
    rfl
  · rw [step_event hp, runEvent, waitPoll_eq, regRead_regIndex]
    rfl

/-- Settles O48: a transaction, a rejected access and one outside the window by their lemmas; the last two are no event. -/
theorem rejectedAccessChangesNothing : Obligations.RejectedAccessChangesNothing := by
  refine ⟨fun i => ⟨busRead_aligned i, busWrite_aligned i⟩,
    fun _ _ hno hin => ⟨busRead_rejected hno hin, busWrite_rejected hno hin⟩,
    fun _ width hout => ⟨busRead_outside hout width, busWrite_outside hout width⟩,
    fun s offset width hno => ?_, fun _ _ => rfl⟩
  rcases lt_or_ge offset 256 with hin | hout
  · have hno : ¬ (width = 32 ∧ offset % 4 = 0) := fun ⟨hw, ha⟩ => hno ⟨hw, ha, hin⟩
    simp [busRead_rejected hno hin, busWrite_rejected hno hin]
  · simp [busRead_outside hout, busWrite_outside hout]

end Sys2Proof.Machine
end

/-! ## Decoding, encoding and the opcode table (30_encoding.md) -/

section
namespace Sys2Proof.Machine

variable {w : Word} {i : Instr}

/-! ### Decoding a word that was encoded -/

theorem decodeFormatN_encodeFormatN (op : BitVec 8) (i : Instr) : decodeFormatN (encodeFormatN op) i = .ok i :=
  if_pos BitVec.extractLsb'_append_eq_left

@[simp] theorem imm8Of_encodeFormatB (b : Byte) (op : BitVec 8) : imm8Of (encodeFormatB b op) = b := by
  rw [imm8Of, encodeFormatB, BitVec.extractLsb'_append_eq_of_le le_rfl]
  exact BitVec.extractLsb'_append_eq_right

theorem decodeFormatB_encodeFormatB (b : Byte) (op : BitVec 8) (f : Byte → Instr) :
    decodeFormatB (encodeFormatB b op) f = .ok (f b) := by
  have hzero : (encodeFormatB b op).extractLsb' 16 16 = 0#16 := by
    rw [encodeFormatB, BitVec.extractLsb'_append_eq_of_le (by decide)]
    exact BitVec.extractLsb'_append_eq_left
  rw [decodeFormatB, if_pos hzero, imm8Of_encodeFormatB]

theorem opcodeOf_encodeFormatB (b : Byte) (op : BitVec 8) : opcodeOf (encodeFormatB b op) = op :=
  BitVec.extractLsb'_append_eq_right

/-- The word of an instruction decodes to the instruction (R101 to R103). -/
theorem decode_encode (i : Instr) : decode (encode i) = .ok i := by
  cases i with
  | keyb b =>
    rw [encode, decode, opcodeOf_encodeFormatB]
    exact decodeFormatB_encodeFormatB b 2 .keyb
  | _ => exact decodeFormatN_encodeFormatN _ _

/-! ### Well-formed words -/

/-- The bits from k up of a word are masked out as a field of their own. -/
theorem and_upperMask_eq_zero {n k : Nat} (x : BitVec (n + k)) :
    x &&& (BitVec.allOnes n ++ 0#k) = 0#n ++ 0#k ↔ x.extractLsb' k n = 0#n := by
  conv_lhs => rw [← BitVec.extractLsb'_append_extractLsb' (x := x), BitVec.and_append, BitVec.and_allOnes,
    BitVec.and_zero, BitVec.append_left_inj]

/-- The opcode as the number that the mask 0xFF leaves (R101). -/
theorem toNat_and_opcodeMask (w : Word) : (w &&& 0xFF#32).toNat = (opcodeOf w).toNat := by
  rw [BitVec.toNat_and, opcodeOf, BitVec.extractLsb'_toNat]
  exact Nat.and_two_pow_sub_one_eq_mod w.toNat 8

theorem and_opcodeMask_eq_two (w : Word) : w &&& 0xFF#32 = 2#32 ↔ (opcodeOf w).toNat = 2 := by
  rw [← toNat_and_opcodeMask, ← BitVec.toNat_inj]
  rfl

/-- What makes a word well formed, by the decoder's own fields (R101, R105). -/
theorem wordWellFormed_iff (w : Word) :
    wordWellFormed w = true ↔ (opcodeOf w).toNat ≤ 6 ∧ ((opcodeOf w).toNat ≠ 2 → w.extractLsb' 8 24 = 0#24) ∧
      ((opcodeOf w).toNat = 2 → w.extractLsb' 16 16 = 0#16) := by
  have hN : w &&& 0xFFFFFF00#32 = 0#32 ↔ w.extractLsb' 8 24 = 0#24 := and_upperMask_eq_zero (n := 24) (k := 8) w
  have hB : w &&& 0xFFFF0000#32 = 0#32 ↔ w.extractLsb' 16 16 = 0#16 := and_upperMask_eq_zero (n := 16) (k := 16) w
  simp only [wordWellFormed, opcodeAssigned, formatNClear, formatBClear, Bool.and_eq_true, Bool.or_eq_true,
    beq_iff_eq, bne_iff_ne, decide_eq_true_eq, ne_eq, hN, hB, toNat_and_opcodeMask, and_opcodeMask_eq_two, and_assoc]
  tauto

/-- A well-formed word decodes: its opcode's format finds the reserved bits zero. -/
theorem decode_of_wellFormed (h : wordWellFormed w = true) : ∃ i, decode w = .ok i := by
  obtain ⟨hop, hN, hB⟩ := (wordWellFormed_iff w).1 h
  unfold decode
  split
  case h_3 hn => exact ⟨_, if_pos (hB hn)⟩
  case h_8 => grind
  all_goals
    next hn => exact ⟨_, if_pos (hN (by omega))⟩

/-! ### The opcode table -/

theorem encoding_statement (i : Instr) : Laws.Encoding.Statement i := by
  cases i with
  | nop => exact Laws.Encoding.nop
  | keyclr => exact Laws.Encoding.keyclr
  | keyb b => exact Laws.Encoding.keyb b
  | genh => exact Laws.Encoding.genh
  | gent => exact Laws.Encoding.gent
  | ack => exact Laws.Encoding.ack
  | srst => exact Laws.Encoding.srst

theorem rowOf_mem_opcodeTable (i : Instr) : rowOf i ∈ opcodeTable := by
  cases i <;> simp [opcodeTable, rowOf]

/-- A word that matches a row agrees with the row's pattern in every bit that the row's mask takes in. -/
theorem and_eq_of_rowMatches {r : OpcodeRow} {m : Word} (hm : r.mask &&& m = m) (h : rowMatches r w = true) :
    w &&& m = r.pattern &&& m := by
  have h : w &&& r.mask = r.pattern := by simpa [rowMatches] using h
  rw [← h, BitVec.and_assoc, hm]

/-- Every row's mask takes in the opcode and bits 31:16, and, but for KEYB's, bits 15:8; every pattern is well formed. -/
theorem opcodeTable_masks : ∀ r ∈ opcodeTable, wordWellFormed r.pattern = true ∧
    r.mask &&& 0xFF#32 = 0xFF#32 ∧ r.mask &&& 0xFFFF0000#32 = 0xFFFF0000#32 ∧
    (r.pattern &&& 0xFF#32 = 2#32 ∨ r.mask &&& 0xFFFFFF00#32 = 0xFFFFFF00#32) := by decide

/-- The rows have different opcodes (R103). -/
theorem opcodeTable_disjoint : ∀ r ∈ opcodeTable, ∀ q ∈ opcodeTable,
    r.pattern &&& 0xFF#32 = q.pattern &&& 0xFF#32 → r = q := by decide

/-- A word that matches a row of the table is well formed, as the row's pattern is. -/
theorem wordWellFormed_of_rowMatches {r : OpcodeRow} (hr : r ∈ opcodeTable) (h : rowMatches r w = true) :
    wordWellFormed w = true := by
  obtain ⟨hp, hop, hB, hN⟩ := opcodeTable_masks r hr
  have hop := and_eq_of_rowMatches hop h
  have hB := and_eq_of_rowMatches hB h
  rcases hN with htwo | hN
  · simpa [wordWellFormed, opcodeAssigned, formatNClear, formatBClear, hop, hB, htwo] using hp
  · have hN := and_eq_of_rowMatches hN h
    simpa only [wordWellFormed, opcodeAssigned, formatNClear, formatBClear, hop, hB, hN] using hp

/-- A decoded word matches its instruction's row (R103). -/
theorem rowMatches_of_decode (h : decode w = .ok i) : rowMatches (rowOf i) w = true := by
  obtain rfl := eq_encode_of_decode h
  obtain ⟨-, hmatch, -⟩ := encoding_statement i
  exact hmatch

/-- The decoder rejects a word exactly when it answers no instruction. -/
theorem decode_error_iff (w : Word) : (∃ e, decode w = .error e) ↔ ¬ ∃ i, decode w = .ok i := by
  cases decode w <;> simp

/-! ### The statements of encoding -/

/-- Settles O1: what decodes is the instruction's word, and the instruction's word decodes to it. -/
theorem decodeInvertsEncode : Obligations.DecodeInvertsEncode := by
  refine fun w i => ⟨eq_encode_of_decode, ?_⟩
  rintro rfl
  exact decode_encode i

/-- Settles O3: a decoded word is an instruction's word, whose format is as it should be; the converse by the fields. -/
theorem legalWordsAreThoseDecoded : Obligations.LegalWordsAreThoseDecoded := by
  refine fun w => ⟨?_, decode_of_wellFormed⟩
  rintro ⟨i, hd⟩
  obtain rfl := eq_encode_of_decode hd
  obtain ⟨hwf, -⟩ := encoding_statement i
  exact hwf

/-- Settles O2: a match holds the opcode, which tells the rows apart, and makes the word well formed, so that it
decodes. -/
theorem decodeFollowsOpcodeTable : Obligations.DecodeFollowsOpcodeTable := by
  refine ⟨fun w i hd => ⟨rowOf_mem_opcodeTable i, rowMatches_of_decode hd⟩, fun w b hd => ?_,
    fun w r hr q hq hrw hqw => ?_, fun w => ?_⟩
  · obtain rfl := eq_encode_of_decode hd
    exact (imm8Of_encodeFormatB b 2).symm
  · obtain ⟨-, hrop, -⟩ := opcodeTable_masks r hr
    obtain ⟨-, hqop, -⟩ := opcodeTable_masks q hq
    exact opcodeTable_disjoint r hr q hq ((and_eq_of_rowMatches hrop hrw).symm.trans (and_eq_of_rowMatches hqop hqw))
  · rw [decode_error_iff]
    constructor
    · intro hno r hr
      by_contra hm
      exact hno (decode_of_wellFormed (wordWellFormed_of_rowMatches hr (by simpa using hm)))
    · rintro hnone ⟨i, hd⟩
      simpa [hnone _ (rowOf_mem_opcodeTable i)] using rowMatches_of_decode hd

/-- Settles O4: each word by evaluation. -/
theorem workedEncodings : Obligations.WorkedEncodings := by
  unfold Obligations.WorkedEncodings
  decide

end Sys2Proof.Machine
end

/-! ## What a command leaves unchanged (30_encoding.md R104, R125, R233) -/

section
namespace Sys2Proof.Machine

variable {s t : State} {i : Instr}

theorem appendKey_sameHostSide {b : Byte} (h : s.appendKey b = .next t) : SameHostSide s t := by
  rcases appendKey_cases h with ⟨-, rfl⟩ | ⟨-, -, rfl⟩ | ⟨-, -, rfl⟩ <;> exact ⟨rfl, rfl⟩

theorem appendKey_read {b : Byte} (h : s.appendKey b = .next t) (hwf : s.key.wf = true) {a : Nat}
    (ha : a ≠ s.keylen.toNat) : t.key.read a = s.key.read a := by
  rcases appendKey_cases h with ⟨-, rfl⟩ | ⟨-, -, rfl⟩ | ⟨-, -, rfl⟩
  · rfl
  · rfl
  · exact (Memory.read_write hwf ..).trans (if_neg ha)

/-- No command touches the Host's side. -/
theorem exec_sameHostSide (h : exec i s = .next t) : SameHostSide s t := by
  rcases exec_cases h with ⟨-, rfl⟩ | ⟨-, -, rfl⟩ | ⟨-, hi⟩
  · exact ⟨rfl, rfl⟩
  · exact ⟨rfl, rfl⟩
  · rcases hi with ⟨-, rfl⟩ | ⟨-, rfl⟩ | ⟨b, -, hk⟩ | ⟨-, rfl⟩ | ⟨-, rfl⟩ | ⟨-, rfl⟩
    · exact ⟨rfl, rfl⟩
    · exact ⟨rfl, rfl⟩
    · exact appendKey_sameHostSide hk
    · exact ⟨rfl, rfl⟩
    · exact ⟨rfl, rfl⟩
    · exact ⟨rfl, rfl⟩

/-- NOP, GENH, GENT and ACK leave the key alone, dropped or taken (R125). -/
theorem exec_sameKey (hi : i = .nop ∨ i = .genh ∨ i = .gent ∨ i = .ack) (h : exec i s = .next t) : SameKey s t := by
  rcases hi with rfl | rfl | rfl | rfl <;> rcases whenIdle_cases h with ⟨-, rfl⟩ | ⟨-, ⟨⟩⟩ <;> exact ⟨rfl, rfl, rfl⟩

/-- KEYB changes at most the byte at address KEYLEN (R122). -/
theorem execKeyb_read {b : Byte} (h : exec (.keyb b) s = .next t) (hwf : s.key.wf = true) {a : Nat}
    (ha : a ≠ s.keylen.toNat) : t.key.read a = s.key.read a := by
  rcases whenIdle_cases h with ⟨-, rfl⟩ | ⟨-, hk⟩
  · rfl
  · exact appendKey_read hk hwf ha

/-- NOP, KEYCLR and KEYB leave the operation and its outcome alone, dropped or taken. -/
theorem exec_sameOperation (hi : i = .nop ∨ i = .keyclr ∨ ∃ b, i = .keyb b) (h : exec i s = .next t) :
    SameOperation s t := by
  rcases hi with rfl | rfl | ⟨b, rfl⟩
  · rcases whenIdle_cases h with ⟨-, rfl⟩ | ⟨-, ⟨⟩⟩ <;> constructor <;> rfl
  · rcases whenIdle_cases h with ⟨-, rfl⟩ | ⟨-, ⟨⟩⟩ <;> constructor <;> rfl
  · rcases whenIdle_cases h with ⟨-, rfl⟩ | ⟨-, hk⟩
    · constructor <;> rfl
    · obtain ⟨-, hop, -⟩ := appendKey_frame hk
      exact hop

/-- While idle, only SRST and ACK touch WRDROP (R291). -/
theorem exec_wrdrop_idle (hsrst : i ≠ .srst) (hack : i ≠ .ack) (hb : s.busy = false) (h : exec i s = .next t) :
    t.wrdrop = s.wrdrop := by
  rcases exec_cases h with ⟨hi, -⟩ | ⟨-, hbusy, -⟩ | ⟨-, hi⟩
  · exact absurd hi hsrst
  · simp [hb] at hbusy
  · rcases hi with ⟨-, rfl⟩ | ⟨-, rfl⟩ | ⟨b, -, hk⟩ | ⟨-, rfl⟩ | ⟨-, rfl⟩ | ⟨hi, -⟩
    · rfl
    · rfl
    · obtain ⟨-, -, hw⟩ := appendKey_frame hk
      exact hw
    · rfl
    · rfl
    · exact absurd hi hack

/-- ACK leaves the Core where it stands, dropped or taken (R231). -/
theorem execAck_frame (h : exec .ack s = .next t) : t.busy = s.busy ∧ t.phase = s.phase ∧ t.scratch = s.scratch := by
  rcases whenIdle_cases h with ⟨-, rfl⟩ | ⟨-, ⟨⟩⟩ <;> exact ⟨rfl, rfl, rfl⟩

/-- Settles O49: the frames of the commands, one lemma for each. -/
theorem commandFrame : Obligations.CommandFrame := by
  intro i s t h
  obtain ⟨hien, hops⟩ := exec_hostRegisters h
  refine ⟨hien, exec_sameHostSide h, hops.resolve_left, fun hi => ?_, ?_, fun hi => ?_, ?_, ?_⟩
  · have hkey := exec_sameKey hi h
    exact ⟨hkey, fun a => by rw [hkey.key]⟩
  · rintro b rfl hwf a ha
    exact execKeyb_read h hwf ha
  · refine ⟨exec_sameOperation hi h, fun hb => exec_wrdrop_idle ?_ ?_ hb h⟩ <;>
      rcases hi with rfl | rfl | ⟨b, rfl⟩ <;> nofun
  · rintro (rfl | rfl) hb
    · exact exec_wrdrop_idle (i := .genh) nofun nofun hb h
    · exact exec_wrdrop_idle (i := .gent) nofun nofun hb h
  · rintro rfl
    exact execAck_frame h

/-- Settles O14: every command but SRST is taken only while idle. -/
theorem busyCommandsAreDropped : Obligations.BusyCommandsAreDropped := by
  intro s i hb hi
  cases i with
  | srst => exact absurd rfl hi
  | _ => exact whenIdle_busy _ hb

end Sys2Proof.Machine
end

/-! ## The pseudo-instructions WAIT and SET64 (30_encoding.md R109) -/

section
namespace Sys2Proof.Machine

variable {s t u : State} {rest : List Event}

theorem SameOperands.trans (h : SameOperands s t) (k : SameOperands t u) : SameOperands s u :=
  ⟨k.alg.trans h.alg, k.digits.trans h.digits, k.ctrLo.trans h.ctrLo, k.ctrHi.trans h.ctrHi, k.nowLo.trans h.nowLo,
    k.nowHi.trans h.nowHi, k.t0Lo.trans h.t0Lo, k.t0Hi.trans h.t0Hi, k.stepLo.trans h.stepLo, k.stepHi.trans h.stepHi⟩

theorem SameKey.trans (h : SameKey s t) (k : SameKey t u) : SameKey s u :=
  ⟨k.key.trans h.key, k.keylen.trans h.keylen, k.keyovf.trans h.keyovf⟩

theorem SameOperation.trans (h : SameOperation s t) (k : SameOperation t u) : SameOperation s u :=
  ⟨k.busy.trans h.busy, k.done.trans h.done, k.err.trans h.err, k.phase.trans h.phase, k.errcode.trans h.errcode,
    k.results.trans h.results, k.scratch.trans h.scratch⟩

/-! ### WAIT -/

theorem phaseNumber_nextPhase {p : Phase} (hi : p ≠ .idle) (hc : p ≠ .commit) :
    phaseNumber (nextPhase p) = phaseNumber p + 1 := by
  cases p with
  | idle => exact absurd rfl hi
  | commit => exact absurd rfl hc
  | _ => rfl

theorem phaseNumber_le (p : Phase) : phaseNumber p ≤ 10 := by cases p <;> decide

/-- A good state is busy in the phases 1 to 10 (R51). -/
theorem GoodState.phaseNumber_pos (h : GoodState s) (hb : s.busy = true) : 1 ≤ phaseNumber s.phase := by
  have hp := h.busy_iff.1 hb
  cases hphase : s.phase with
  | idle => exact absurd hphase hp
  | _ => decide

/-- A Core step that does not end the operation takes PHASE to the next number (R133). -/
theorem GoodState.coreStep_phaseNumber (hs : GoodState s) (hb : s.busy = true) (h : coreStep s = .next t)
    (htb : t.busy = true) : phaseNumber t.phase = phaseNumber s.phase + 1 := by
  rcases coreStep_cases h with ⟨hidle, -⟩ | ⟨-, hp, -, rfl⟩ | ⟨-, -, -, rfl⟩ | ⟨-, hi, -, hc, sc, -, rfl⟩ |
    ⟨-, -, a, -, rfl⟩
  · rcases hidle with hidle | hidle
    · simp [hb] at hidle
    · exact absurd hidle (hs.busy_iff.1 hb)
  · simp [hp, phaseNumber]
  · cases htb
  · exact phaseNumber_nextPhase hi hc
  · cases htb

/-- The poll that finds BUSY = 0 ends the WAIT. -/
theorem step_wait_idle (hp : s.pending = .wait :: rest) (hb : s.busy = false) :
    step s = .next (s.withInterface rest (s.statusWord :: s.replies) s.wrdrop s.ien) := by
  rw [step_event hp]
  exact if_neg (by simp [hb])

/-- The poll that finds BUSY = 1 puts a Core step and the next poll in front (notes/assumptions/9.md). -/
theorem step_wait_busy (hp : s.pending = .wait :: rest) (hb : s.busy = true) :
    step s = .next (s.withInterface (.core :: .wait :: rest) (s.statusWord :: s.replies) s.wrdrop s.ien) := by
  rw [step_event hp]
  exact if_pos hb

/-- A poll that finds BUSY = 1 and the Core step after it: the WAIT is next again, and the operation one phase further. -/
theorem GoodState.waitRound (h : GoodState s) (hp : s.pending = .wait :: rest) (hb : s.busy = true) :
    ∃ u t, step s = .next u ∧ step u = .next t ∧ GoodState t ∧ t.pending = .wait :: rest ∧ SameOperands s t ∧
      SameKey s t ∧ (t.busy = true → phaseNumber t.phase = phaseNumber s.phase + 1) := by
  let v : State := s.withInterface (.wait :: rest) (s.statusWord :: s.replies) s.wrdrop s.ien
  have hv : GoodState v := h.withInterface ..
  obtain ⟨t, ht⟩ := hv.coreStep_next
  obtain ⟨hops, hkey, hhost, -, -⟩ := coreStep_frame ht
  exact ⟨_, t, step_wait_busy hp hb, ht, hv.afterCoreStep ht, hhost.pending, (withInterface_sameOperands ..).trans hops,
    (withInterface_sameKey ..).trans hkey, hv.coreStep_phaseNumber hb ht⟩

/-- k steps lead to the end of the WAIT that is next, `rest` still to come, with the operand registers and the key as they
were. -/
def WaitOverAfter (rest : List Event) (s : State) (k : Nat) : Prop :=
  ∃ t, Host.Core.run core k s = .next t ∧ t.busy = false ∧ t.pending = rest ∧ SameOperands s t ∧ SameKey s t

theorem waitOverAfter_one (hp : s.pending = .wait :: rest) (hb : s.busy = false) : WaitOverAfter rest s 1 :=
  ⟨_, run_succ (step_wait_idle hp hb), hb, rfl, withInterface_sameOperands .., withInterface_sameKey ..⟩

/-- A WAIT with at most n Core steps of the operation to go is over after at most 2n + 1 steps. -/
theorem GoodState.waitOver (h : GoodState s) (hp : s.pending = .wait :: rest) {n : Nat}
    (hn : s.busy = true → 11 ≤ phaseNumber s.phase + n) : ∃ k ≤ 2 * n + 1, WaitOverAfter rest s k := by
  induction n generalizing s with
  | zero =>
    have hb : s.busy = false := by
      by_contra hb
      have := hn (by simpa using hb)
      have := phaseNumber_le s.phase
      omega
    exact ⟨1, le_rfl, waitOverAfter_one hp hb⟩
  | succ n ih =>
    cases hb : s.busy with
    | false => exact ⟨1, by omega, waitOverAfter_one hp hb⟩
    | true =>
      obtain ⟨u, v, hu, hv, hgood, hpv, hops, hkey, hphase⟩ := h.waitRound hp hb
      obtain ⟨k, hk, t, hrun, htb, htp, htops, htkey⟩ := ih hgood hpv fun hvb => by
        have := hphase hvb
        have := hn hb
        omega
      have hrun : Host.Core.run core (k + 2) s = .next t := (run_succ hu).trans ((run_succ hv).trans hrun)
      exact ⟨k + 2, by omega, t, hrun, htb, htp, hops.trans htops, hkey.trans htkey⟩

/-- Settles O59: each of the ten phases from CHECK to COMMIT takes a poll and a Core step, and the last poll is one more. -/
theorem waitEnds : Obligations.WaitEnds := by
  intro s rest h hp
  obtain ⟨k, hk, t, ht⟩ := h.waitOver hp (n := 10) fun hb => by
    have := h.phaseNumber_pos hb
    omega
  exact ⟨k, t, hk, ht⟩

/-! ### SET64 -/

/-- The two halves of a pair are operand registers, and not the same one. -/
theorem pairRegs_operands (p : Pair) :
    isOperand (pairRegs p).1 = true ∧ isOperand (pairRegs p).2 = true ∧ (pairRegs p).1 ≠ (pairRegs p).2 := by
  cases p <;> decide

/-- A write to an operand register while idle: the register is stored, the event gone, the key and the operation stay. -/
theorem step_writeTo {r : Reg} {v : Word} (hb : s.busy = false) (ho : isOperand r = true)
    (hp : s.pending = writeTo r v :: rest) :
    ∃ t, step s = .next t ∧ t.pending = rest ∧ SameKey s t ∧ SameOperation s t ∧
      ∀ q, regRead (regIndex q) t = if q = r then v else regRead (regIndex q) s := by
  obtain ⟨hkey, hop, hhost, -, -⟩ := storeOperand_frame r v (s.withPending rest)
  have hstep : step s = .next ((s.withPending rest).storeOperand r v) := calc
    step s = regWrite (regIndex r) v (s.withPending rest) := step_event hp
    _ = whenIdle (s.withPending rest) (.next ((s.withPending rest).storeOperand r v)) :=
      regWrite_operand (regAt_regIndex r) ho v
    _ = .next ((s.withPending rest).storeOperand r v) := whenIdle_idle _ hb
  refine ⟨_, hstep, hhost.pending, sameKey_of_withPending hkey, ?_, fun q => ?_⟩
  · exact (withInterface_sameOperation rest s.replies s.wrdrop s.ien s).trans hop
  · rw [← regRead_withPending (regIndex q) rest s, regRead_regIndex, regRead_regIndex, readReg_storeOperand]
    simp [ho]

/-- Settles O60: two operand writes, one after the other, to different registers. -/
theorem setPairWritesBothHalves : Obligations.SetPairWritesBothHalves := by
  intro s p v rest hb hp
  obtain ⟨hlo, hhi, hne⟩ := pairRegs_operands p
  obtain ⟨t, ht, htp, htkey, htop, htread⟩ := step_writeTo hb hlo hp
  obtain ⟨u, hu, hup, hukey, huop, huread⟩ := step_writeTo (htop.busy.trans hb) hhi htp
  refine ⟨u, (run_succ ht).trans (run_succ hu), hup, ?_, htkey.trans hukey, htop.trans huop⟩
  rw [huread, if_pos rfl, huread, if_neg hne, htread, if_pos rfl]
  exact BitVec.extractLsb'_append_extractLsb' (w := 32) (len := 32)

end Sys2Proof.Machine
end

/-! ## Key commands (40_key_commands.md) -/

section
namespace Sys2Proof.Machine

variable {s t : State} {rest : List Event}

/-! ### The next byte of the secret (R122) -/

/-- KEYB's effect with room left: the byte at address KEYLEN, and KEYLEN one more. -/
def State.pushKey (b : Byte) (s : State) : State :=
  { s with key := s.key.write s.keylen.toNat b, keylen := s.keylen + 1 }

theorem appendKey_eq_pushKey (b : Byte) (ho : s.keyovf = false) (hl : s.keylen.toNat < Config.keyMax) :
    s.appendKey b = .next (s.pushKey b) := appendKey_room b ho hl

theorem State.pushKey_keylen (b : Byte) (hl : s.keylen.toNat < Config.keyMax) :
    (s.pushKey b).keylen.toNat = s.keylen.toNat + 1 := keylen_succ hl

theorem State.pushKey_key_wf (b : Byte) (hwf : s.key.wf = true) : (s.pushKey b).key.wf = true := Memory.write_wf _ b hwf

theorem State.pushKey_read (b : Byte) (hwf : s.key.wf = true) (a : Nat) :
    (s.pushKey b).key.read a = if a = s.keylen.toNat then b else s.key.read a := Memory.read_write hwf _ b a

/-- The secret grows at its end. -/
theorem State.pushKey_secret (b : Byte) (hl : s.keylen.toNat < Config.keyMax) (hwf : s.key.wf = true) :
    (s.pushKey b).secret = s.secret ++ [b] := by
  rw [State.secret, State.pushKey_keylen b hl]
  exact Memory.readBytes_write hwf s.keylen.toNat b

@[simp] theorem State.clearKey_secret (s : State) : s.clearKey.secret = [] := rfl

/-! ### A run of KEYBs (R124) -/

/-- A step whose next event writes a command is the command's `exec`. -/
theorem step_command {i : Instr} (hp : s.pending = command i :: rest) : step s = exec i (s.withPending rest) := calc
  step s = regWrite (regIndex .cmd) (encode i) (s.withPending rest) := step_event hp
  _ = exec i (s.withPending rest) := regWrite_cmd_of_decode (decode_encode i)

/-- While idle, a KEYB that is next appends its byte. -/
theorem step_keyb {b : Byte} (hb : s.busy = false) (hp : s.pending = command (.keyb b) :: rest) :
    step s = (s.withPending rest).appendKey b := (step_command hp).trans (whenIdle_idle _ hb)

/-- After an overflow the KEYBs are taken one by one and change nothing (R122). -/
theorem run_keybs_overflowed {bytes : List Byte} (hb : s.busy = false) (ho : s.keyovf = true)
    (hp : s.pending = bytes.map (fun b => command (.keyb b)) ++ rest) :
    Host.Core.run core bytes.length s = .next (s.withPending rest) := by
  induction bytes generalizing s with
  | nil =>
    obtain rfl : s.pending = rest := hp
    rfl
  | cons b bs ih =>
    have hstep := (step_keyb hb hp).trans (appendKey_overflowed b ho)
    exact (run_succ hstep).trans (ih hb ho rfl)

/-- t is s after KEYBs of these bytes: those that fit appended to the secret, KEYOVF set if not all do, and, but for the
events taken, nothing else changed (R124). -/
structure KeyLoaded (bytes : List Byte) (rest : List Event) (s t : State) : Prop where
  frame : t = { s with key := t.key, keylen := t.keylen, keyovf := t.keyovf, pending := rest }
  secret : t.secret = s.secret ++ bytes.take (Config.keyMax - s.keylen.toNat)
  keylen : t.keylen.toNat = min (s.keylen.toNat + bytes.length) Config.keyMax
  keyovf : t.keyovf = true ↔ Config.keyMax < s.keylen.toNat + bytes.length

theorem keyLoaded_nil (ho : s.keyovf = false) (hl : s.keylen.toNat ≤ Config.keyMax) :
    KeyLoaded [] rest s (s.withPending rest) where
  frame := rfl
  secret := by rw [List.take_nil, List.append_nil]; rfl
  keylen := (Nat.min_eq_left hl).symm
  keyovf := by simp [ho, hl]

/-- With the memory full the first byte sets KEYOVF, and none is stored. -/
theorem keyLoaded_full {bytes : List Byte} (hne : bytes ≠ []) (hl : s.keylen.toNat = Config.keyMax) :
    KeyLoaded bytes rest s { s.withPending rest with keyovf := true } where
  frame := rfl
  secret := by rw [hl, Nat.sub_self, List.take_zero, List.append_nil]; rfl
  keylen := by
    rw [Nat.min_eq_right (by omega)]
    exact hl
  keyovf := by
    have := List.length_pos_of_ne_nil hne
    simp [hl, this]

/-- With room left the first byte is stored, and the others go on from there. -/
theorem KeyLoaded.cons {b : Byte} {bytes : List Byte} {es : List Event} (hl : s.keylen.toNat < Config.keyMax)
    (hwf : s.key.wf = true) (h : KeyLoaded bytes rest ((s.withPending es).pushKey b) t) :
    KeyLoaded (b :: bytes) rest s t := by
  have hkeylen : ((s.withPending es).pushKey b).keylen.toNat = s.keylen.toNat + 1 :=
    State.pushKey_keylen (s := s.withPending es) b hl
  have hsecret : ((s.withPending es).pushKey b).secret = s.secret ++ [b] :=
    State.pushKey_secret (s := s.withPending es) b hl hwf
  obtain ⟨hframe, hsec, hlen, hovf⟩ := h
  rw [hkeylen] at hsec hlen hovf
  refine ⟨hframe, ?_, ?_, ?_⟩
  · have hroom : Config.keyMax - s.keylen.toNat = Config.keyMax - (s.keylen.toNat + 1) + 1 := by omega
    rw [hsec, hsecret, List.append_assoc, List.singleton_append, hroom, List.take_succ_cons]
  · rw [hlen, List.length_cons]
    omega
  · rw [hovf, List.length_cons]
    omega

/-- KEYBs written one after another, from an idle state without an overflow. -/
theorem run_keybs {bytes : List Byte} (hb : s.busy = false) (ho : s.keyovf = false) (hwf : s.key.wf = true)
    (hl : s.keylen.toNat ≤ Config.keyMax) (hp : s.pending = bytes.map (fun b => command (.keyb b)) ++ rest) :
    ∃ t, Host.Core.run core bytes.length s = .next t ∧ KeyLoaded bytes rest s t := by
  induction bytes generalizing s with
  | nil =>
    obtain rfl : s.pending = rest := hp
    exact ⟨s, rfl, keyLoaded_nil ho hl⟩
  | cons b bs ih =>
    let u : State := s.withPending (bs.map (fun b => command (.keyb b)) ++ rest)
    rcases hl.lt_or_eq with hroom | hfull
    · have hstep : step s = .next (u.pushKey b) := (step_keyb hb hp).trans (appendKey_eq_pushKey b ho hroom)
      have hlu : (u.pushKey b).keylen.toNat ≤ Config.keyMax := (State.pushKey_keylen b hroom).trans_le hroom
      obtain ⟨t, hrun, ht⟩ := ih (s := u.pushKey b) hb ho (State.pushKey_key_wf b hwf) hlu rfl
      exact ⟨t, (run_succ hstep).trans hrun, ht.cons hroom hwf⟩
    · have hstep := (step_keyb hb hp).trans (appendKey_full b ho hfull)
      exact ⟨_, (run_succ hstep).trans (run_keybs_overflowed hb rfl rfl), keyLoaded_full nofun hfull⟩

/-! ### The statements of 40_key_commands.md -/

/-- Settles O11: each case by the lemma for it, the byte's place and the others by the read after a write. -/
theorem keybAppendsOrOverflows : Obligations.KeybAppendsOrOverflows := by
  intro s b hb
  have hexec : exec (.keyb b) s = s.appendKey b := whenIdle_idle _ hb
  refine ⟨fun ho => hexec.trans (appendKey_overflowed b ho), fun ho hl => hexec.trans (appendKey_full b ho hl),
    fun ho hl hwf => ⟨s.pushKey b, hexec.trans (appendKey_eq_pushKey b ho hl), rfl, State.pushKey_keylen b hl,
      State.pushKey_secret b hl hwf, State.pushKey_key_wf b hwf, ?_, fun a ha => ?_⟩⟩
  · rw [State.pushKey_read b hwf, if_pos rfl]
  · rw [State.pushKey_read b hwf, if_neg ha]

/-- Settles O12: KEYCLR leaves an empty key memory, from which the KEYBs are the case without it. -/
theorem loadingLaw : Obligations.LoadingLaw := by
  refine ⟨fun s bytes rest hb hp => ?_, fun s bytes rest hb hwf hl hp => ?_⟩
  · let u : State := (s.withPending (bytes.map (fun b => command (.keyb b)) ++ rest)).clearKey
    have hstep : step s = .next u := (step_command hp).trans (whenIdle_idle _ hb)
    obtain ⟨t, hrun, hframe, hsecret, hkeylen, hkeyovf⟩ :=
      run_keybs (s := u) hb rfl Memory.wf_nil (Nat.zero_le _) rfl
    have hempty : u.secret = [] := State.clearKey_secret _
    have hzero : u.keylen.toNat = 0 := rfl
    rw [hempty, hzero, List.nil_append, Nat.sub_zero] at hsecret
    rw [hzero, Nat.zero_add] at hkeylen hkeyovf
    exact ⟨t, (run_succ hstep).trans hrun, hframe, hsecret, hkeylen, hkeyovf⟩
  · rcases Bool.eq_false_or_eq_true s.keyovf with ho | ho
    · exact ⟨_, run_keybs_overflowed hb ho hp, rfl, fun _ => rfl, by simp [ho]⟩
    · obtain ⟨t, hrun, hframe, hsecret, hkeylen, hkeyovf⟩ := run_keybs hb ho hwf hl hp
      exact ⟨t, hrun, hframe, by simp [ho], fun _ => ⟨hsecret, hkeylen, hkeyovf⟩⟩

/-- Settles O9: the two cases of a command taken only while idle. -/
theorem nopChangesNothing : Obligations.NopChangesNothing := fun _ => ⟨whenIdle_idle _, whenIdle_busy _⟩

/-- Settles O10: taken while idle, it leaves the empty memory, which reads 0x00 everywhere. -/
theorem keyclrEmptiesKey : Obligations.KeyclrEmptiesKey := fun s hb =>
  ⟨s.clearKey, whenIdle_idle _ hb, rfl, State.clearKey_secret s, fun a _ => Memory.read_nil a⟩

end Sys2Proof.Machine
end

/-! ## Generate commands and the sequencer (41_generate_commands.md) -/

section
namespace Sys2Proof.Machine

variable {s t : State} {op : GenOp}

/-! ### How long an operation takes (R144) -/

/-- A run of m + n Core steps that ends in a state is a run of m and a run of n. -/
theorem coreRun_add_cases {m n : Nat} (h : coreRun (m + n) s = .next t) :
    ∃ u, coreRun m s = .next u ∧ coreRun n u = .next t := by
  induction m generalizing s with
  | zero => exact ⟨s, rfl, by rwa [Nat.zero_add] at h⟩
  | succ m ih =>
    rw [Nat.succ_add] at h
    obtain ⟨v, hv, hrun⟩ := coreRun_succ_cases h
    obtain ⟨u, hu, hn⟩ := ih hrun
    exact ⟨u, (coreRun_succ hv).trans hu, hn⟩

/-- A run that ends busy began busy, since an idle Core stays idle (R134). -/
theorem busy_of_coreRun {n : Nat} (h : coreRun n s = .next t) (ht : t.busy = true) : s.busy = true := by
  by_contra hb
  rw [coreRun_idle n (by simpa using hb)] at h
  cases h
  exact hb ht

/-- The first Core step of an operation in which CHECK finds an error is its error commit (R135, R251). -/
theorem coreStep_accept_error (he : checkErrors op s ≠ .noError) :
    coreStep (s.accept op) = .next ((s.accept op).errorCommit (checkErrors op s)) := by
  have hcheck : checkErrors (s.accept op).scratch.op (s.accept op) = checkErrors op s := checkErrors_accept ..
  rw [coreStep_check_error rfl rfl (hcheck ▸ he), hcheck]

/-- Nine Core steps after the acceptance an operation without error stands in COMMIT, still busy. -/
theorem coreRun_nine_accept (he : checkErrors op s = .noError) :
    ∃ t, coreRun 9 (s.accept op) = .next t ∧ t.busy = true := by
  obtain ⟨-, hd, halg, hgent, -, -⟩ := checkErrors_noError he
  obtain ⟨a, ha⟩ := selectHash_of_le halg
  obtain ⟨mf, hmf⟩ := movingFactor_of hgent
  exact ⟨_, coreRun_check_to_commit rfl rfl ((checkErrors_accept ..).trans he) ha
    ((movingFactor_congr (accept_sameOperands ..)).trans hmf) (secret_accept ..) (reduceCode_of_le hd)
    (formatCode_of_le hd), rfl⟩

theorem bigStep_done (he : checkErrors op s = .noError) : (bigStep op s).done = true := by
  rw [bigStep, if_pos he]

/-! ### Where PHASE goes (R133) -/

/-- A command that moves PHASE is SRST, which sets it to IDLE, or an acceptance, which sets it to CHECK. -/
theorem exec_phase {i : Instr} (h : exec i s = .next t) (hne : t.phase ≠ s.phase) :
    (i = .srst ∧ t.phase = .idle) ∨ ((i = .genh ∨ i = .gent) ∧ s.busy = false ∧ t.phase = .check) := by
  rcases exec_cases h with ⟨hi, rfl⟩ | ⟨-, -, rfl⟩ | ⟨hb, hi⟩
  · exact .inl ⟨hi, rfl⟩
  · exact absurd rfl hne
  · rcases hi with ⟨-, rfl⟩ | ⟨-, rfl⟩ | ⟨b, -, hk⟩ | ⟨hi, rfl⟩ | ⟨hi, rfl⟩ | ⟨-, rfl⟩
    · exact absurd rfl hne
    · exact absurd rfl hne
    · obtain ⟨-, hop, -⟩ := appendKey_frame hk
      exact absurd hop.phase hne
    · exact .inr ⟨.inl hi, hb, rfl⟩
    · exact .inr ⟨.inr hi, hb, rfl⟩
    · exact absurd rfl hne

/-- A word written to CMD moves PHASE only as the word of SRST, GENH or GENT; an illegal word does not (R252). -/
theorem execCommand_phase {w : Word} (h : execCommand w s = .next t) (hne : t.phase ≠ s.phase) :
    (w = encode .srst ∧ t.phase = .idle) ∨
      ((w = encode .genh ∨ w = encode .gent) ∧ s.busy = false ∧ t.phase = .check) := by
  rcases execCommand_cases h with ⟨i, hd, hx⟩ | ⟨e, -, ⟨-, rfl⟩ | ⟨-, rfl⟩⟩
  · obtain rfl := eq_encode_of_decode hd
    exact (exec_phase hx hne).imp (.imp_left (congrArg encode))
      (.imp_left (.imp (congrArg encode) (congrArg encode)))
  · exact absurd rfl hne
  · exact absurd rfl hne

/-- Of the host writes only one to CMD moves PHASE. -/
theorem regWrite_phase {i : Fin 64} {v : Word} (h : regWrite i v s = .next t) (hne : t.phase ≠ s.phase) :
    i = regIndex .cmd ∧ execCommand v s = .next t := by
  rcases regWrite_cases h with ⟨hi, hc⟩ | ⟨-, rfl⟩ | ⟨r, -, -, ⟨-, rfl⟩ | ⟨-, rfl⟩⟩ | rfl
  · exact ⟨eq_cmd_of_regAt hi, hc⟩
  · exact absurd rfl hne
  · exact absurd rfl hne
  · obtain ⟨-, hop, -⟩ := storeOperand_frame r v s
    exact absurd hop.phase hne
  · exact absurd rfl hne

/-- A Core step while busy: from CHECK to IDLE on an error, otherwise to the next phase. -/
theorem coreStep_phase (hb : s.busy = true) (h : coreStep s = .next t) :
    t.phase = if s.phase = .check ∧ checkErrors s.scratch.op s ≠ .noError then .idle else nextPhase s.phase := by
  rcases coreStep_cases h with ⟨hidle, rfl⟩ | ⟨-, hp, he, rfl⟩ | ⟨-, hp, he, rfl⟩ | ⟨-, -, hp, -, sc, -, rfl⟩ |
    ⟨-, hp, a, -, rfl⟩
  · have hp : t.phase = .idle := hidle.resolve_left (by simp [hb])
    simp [hp, nextPhase]
  · simp [hp, he, nextPhase]
  · simp [hp, he]
  · simp [hp]
  · simp [hp, nextPhase]

/-! ### The number of the error that CHECK finds (R241, R250) -/

/-- ERRCODE as a number, for an error that CHECK finds: its cause is the first that holds in the order of R250. -/
theorem errNumber_checkErrors (he : checkErrors op s ≠ .noError) :
    errNumber (checkErrors op s) =
      if s.digits.toNat < 1 ∨ 8 < s.digits.toNat then 1
      else if op = .gent ∧ s.stepSeconds.toNat = 0 then 5
      else if op = .gent ∧ s.now.toNat < s.t0.toNat then 2
      else if 2 < s.alg.toNat then 3
      else if s.keyovf = true then 6
      else 4 := by
  have hstep : s.stepSeconds = 0 ↔ s.stepSeconds.toNat = 0 := BitVec.toNat_inj.symm
  simp only [checkErrors, hstep, BitVec.lt_def] at he ⊢
  split_ifs at he ⊢
  iterate 6
    · rfl
  · exact absurd rfl he

/-! ### The statements of 41_generate_commands.md -/

/-- Settles O20: the ten steps by the run lemma, which also finds the results where CHECK finds no error. -/
theorem sequencerComputesBigStep : Obligations.SequencerComputesBigStep := by
  refine fun op s => ⟨coreRun_accept op s, fun he => ?_⟩
  obtain ⟨-, hres⟩ := coreRun_accept_noError op s he
  exact hres

/-- Settles O21: the error commit is the first step; without an error the run is busy after nine steps, so after fewer
too, and the tenth ends in the big step. -/
theorem operationTakesOneOrTenSteps : Obligations.OperationTakesOneOrTenSteps := by
  refine fun op s => ⟨fun he => ⟨_, coreRun_succ (coreStep_accept_error he), rfl, rfl⟩, fun he => ⟨fun n hn => ?_, ?_⟩⟩
  · obtain ⟨t, hrun, ht⟩ := coreRun_nine_accept he
    rw [← Nat.add_sub_of_le (Nat.le_of_lt_succ hn)] at hrun
    obtain ⟨u, hu, hk⟩ := coreRun_add_cases hrun
    exact ⟨u, hu, busy_of_coreRun hk ht⟩
  · exact ⟨_, coreRun_accept op s, bigStep_busy op s, bigStep_done he⟩

/-- Settles O15: the two acceptances, the Core's step, and of the other events only Reset and a write to CMD. -/
theorem phaseTransitions : Obligations.PhaseTransitions := by
  refine ⟨fun s hb => ⟨⟨_, whenIdle_idle _ hb, rfl⟩, ⟨_, whenIdle_idle _ hb, rfl⟩, coreStep_idle hb⟩,
    fun s t hb h => coreStep_phase hb h, fun s t e hcore h hne => ?_⟩
  rcases runEvent_cases h with ⟨i, -, rfl⟩ | ⟨i, v, rfl, hw⟩ | ⟨he, -⟩ | ⟨he, rfl⟩ | ⟨-, -, rfl⟩ | ⟨-, -, rfl⟩
  · exact absurd rfl hne
  · obtain ⟨rfl, hc⟩ := regWrite_phase hw hne
    rcases execCommand_phase hc hne with ⟨rfl, ht⟩ | ⟨rfl | rfl, hb, ht⟩
    · exact .inr (.inl ⟨rfl, ht⟩)
    · exact .inr (.inr ⟨.inl rfl, hb, ht⟩)
    · exact .inr (.inr ⟨.inr rfl, hb, ht⟩)
  · exact absurd he hcore
  · exact .inl ⟨he, rfl⟩
  · exact absurd rfl hne
  · exact absurd rfl hne

/-- Settles O13: both are taken while idle, and `State.accept` is that change of the state. -/
theorem generateIsAccepted : Obligations.GenerateIsAccepted := fun _ hb => ⟨whenIdle_idle _ hb, whenIdle_idle _ hb⟩

/-- Settles O17: the error commit by its lemma, whose ERRCODE reads as the number of the first cause; else on to
MFSEL. -/
theorem checkCommitsErrors : Obligations.CheckCommitsErrors := by
  refine fun s hb hp => ⟨fun he => ⟨_, coreStep_check_error hb hp he, rfl, ?_⟩, fun he => coreStep_check hb hp he⟩
  rw [regRead_regIndex]
  simp only [State.readReg, State.errorCommit_errcode, errNumber_checkErrors he]
  split_ifs <;> rfl

end Sys2Proof.Machine
end

/-! ## The encoder (42_encoder.md): big-endian strings byte by byte, and the string of a pair of words -/

section
namespace Sys2Proof.Machine

/-! ### Byte strings of numbers (R10) -/

/-- R10: a byte of `be_n(v)`. -/
theorem beBytes_getElem? {n i : Nat} (v : Nat) (hi : i < n) :
    (beBytes n v)[i]? = some (BitVec.ofNat 8 (v >>> (8 * (n - 1 - i)))) := by
  rw [beBytes, List.getElem?_map, List.getElem?_range hi, Option.map_some]

/-- The first m of m + n bytes are those of the number without its low n bytes. -/
theorem beBytes_add (m n v : Nat) : beBytes (m + n) v = beBytes m (v >>> (8 * n)) ++ beBytes n v := by
  simp only [beBytes, List.range_add, List.map_append, List.map_map]
  congr 1
  · refine List.map_congr_left fun i hi => ?_
    have hshift : 8 * (m + n - 1 - i) = 8 * n + 8 * (m - 1 - i) := by
      have := List.mem_range.mp hi
      omega
    rw [hshift, Nat.shiftRight_add]
  · refine List.map_congr_left fun i _ => ?_
    have hshift : m + n - 1 - (m + i) = n - 1 - i := by omega
    rw [Function.comp_apply, hshift]

/-- `be_n(v)` depends on the low n bytes of v only. -/
theorem beBytes_mod (n v : Nat) : beBytes n (v % 2 ^ (8 * n)) = beBytes n v := by
  refine List.map_congr_left fun i hi => BitVec.eq_of_getLsbD_eq fun j hj => ?_
  have hlow : 8 * (n - 1 - i) + j < 8 * n := by
    have := List.mem_range.mp hi
    omega
  simp only [BitVec.getLsbD_ofNat, Nat.testBit_shiftRight, Nat.testBit_mod_two_pow, hlow, decide_true, Bool.true_and]

/-- The string of two numbers side by side is the one string after the other. -/
theorem beBytes_append {m n : Nat} (x : BitVec (8 * m)) (y : BitVec (8 * n)) :
    beBytes (m + n) (x ++ y).toNat = beBytes m x.toNat ++ beBytes n y.toNat := by
  have hhigh : (x ++ y).toNat >>> (8 * n) = x.toNat := by
    rw [BitVec.toNat_append, Nat.shiftRight_or_distrib, Nat.shiftLeft_shiftRight, Nat.shiftRight_eq_zero _ _ y.isLt,
      Nat.or_zero]
  have hlow : (x ++ y).toNat % 2 ^ (8 * n) = y.toNat := by
    rw [BitVec.toNat_append, Nat.or_mod_two_pow, Nat.mod_eq_of_lt y.isLt, Nat.shiftLeft_eq, Nat.mul_mod_left,
      Nat.zero_or]
  rw [beBytes_add, hhigh, ← beBytes_mod n (x ++ y).toNat, hlow]

/-! ### The statement of 42_encoder.md -/

/-- R150: a byte of `Enc64(mf)` by its bits. -/
theorem enc64_getElem? {i : Nat} (mf : DWord) (hi : i < 8) :
    (enc64 mf)[i]? = some (mf.extractLsb' (56 - 8 * i) 8) := by
  have hstart : 56 - 8 * i = 8 * (8 - 1 - i) := by omega
  rw [enc64, beBytes_getElem? _ hi, hstart, BitVec.extractLsb']

/-- Settles O25: the length and each byte by the rules of big-endian strings; a pair of words by `beBytes_append` at
four bytes each. -/
theorem encoderIsBigEndian : Obligations.EncoderIsBigEndian :=
  ⟨fun mf => ⟨beBytes_length .., fun _ hi => enc64_getElem? mf hi⟩, fun hi lo => beBytes_append (m := 4) (n := 4) hi lo⟩

end Sys2Proof.Machine
end

/-! ## Hashing and HMAC (43_hmac.md): padding to whole blocks, and what the key block depends on -/

section
namespace Sys2Proof.Machine

variable {a : HashAlg} {key : List Byte}

/-! ### Padding and blocks (R172) -/

@[simp] theorem blocks_length (B k : Nat) (p : List Byte) : (blocks B k p).length = k := by
  induction k generalizing p with
  | zero => rfl
  | succ k ih => rw [blocks, List.length_cons, ih]

/-- The padding fills the block that the n message bytes and the length field reach into, the byte 0x80 counted. -/
theorem padZeros_eq {B : Nat} (hB : 0 < B) (n lb : Nat) : padZeros n B lb = B - 1 - (n + lb) % B := by
  have hlt := Nat.mod_lt (n + lb) hB
  have hsplit : n + 1 + lb = (n + lb) % B + 1 + B * ((n + lb) / B) := by
    have := Nat.mod_add_div (n + lb) B
    omega
  rw [padZeros, hsplit, Nat.add_mul_mod_self_left]
  obtain hend | hin : (n + lb) % B + 1 = B ∨ (n + lb) % B + 1 < B := by omega
  · rw [hend, Nat.mod_self, Nat.sub_zero, Nat.mod_self]
    omega
  · rw [Nat.mod_eq_of_lt hin, Nat.mod_eq_of_lt (by omega)]
    omega

/-- A padded message is a whole number of blocks. -/
theorem shaPad_length {B : Nat} (hB : 0 < B) (m : List Byte) (lb : Nat) :
    (shaPad m B lb).length = B * ((m.length + lb) / B + 1) := by
  have hlt := Nat.mod_lt (m.length + lb) hB
  have hsplit := Nat.mod_add_div (m.length + lb) B
  simp only [shaPad, List.length_append, List.length_singleton, zeros_length, beBytes_length, padZeros_eq hB,
    Nat.mul_succ]
  omega

/-- The number of blocks of a message, ceil((n + 1 + lb) / B) (R165). -/
theorem shaBlocks_length {B : Nat} (hB : 0 < B) (m : List Byte) (lb : Nat) :
    (shaBlocks m B lb).length = (m.length + lb) / B + 1 := by
  rw [shaBlocks, blocks_length, shaPad_length hB, Nat.mul_div_cancel_left _ hB]

theorem blockSize_pos (a : HashAlg) : 0 < blockSize a := Nat.zero_lt_of_lt (macLength_lt_blockSize a)

/-- A masked key block and a string that leaves room in a block for the length field are two blocks. -/
theorem shaBlocks_keyBlock_append {s : List Byte} {lb : Nat} (c : Byte) (h : s.length + lb < blockSize a) :
    (shaBlocks (xorBytes (keyBlock a key) c ++ s) (blockSize a) lb).length = 2 := by
  rw [shaBlocks_length (blockSize_pos a), List.length_append, xorBytes_length, keyBlock_length, Nat.add_assoc,
    Nat.add_div_left _ (blockSize_pos a), Nat.div_eq_of_lt h]

/-- A digest and the length field fit in a block. -/
theorem macLength_add_lenBytes_lt (a : HashAlg) : macLength a + (if a = .sha512 then 16 else 8) < blockSize a := by
  cases a <;> decide

/-! ### The key block (R161) -/

theorem keyBlock_of_le (h : key.length ≤ blockSize a) : keyBlock a key = key ++ zeros (blockSize a - key.length) := by
  rw [keyBlock, if_neg h.not_gt]

theorem keyBlock_of_lt (h : blockSize a < key.length) :
    keyBlock a key = hashOf a key ++ zeros (blockSize a - (hashOf a key).length) := by
  rw [keyBlock, if_pos h]

theorem keyBlock_append_zeros {n : Nat} (h : key.length + n ≤ blockSize a) :
    keyBlock a (key ++ zeros n) = keyBlock a key := by
  have hlen : (key ++ zeros n).length = key.length + n := by rw [List.length_append, zeros_length]
  have hsum : n + (blockSize a - (key.length + n)) = blockSize a - key.length := by omega
  rw [keyBlock_of_le (hlen.trans_le h), keyBlock_of_le (by omega), hlen, List.append_assoc, ← zeros_add, hsum]

theorem keyBlock_hashOf (h : blockSize a < key.length) : keyBlock a (hashOf a key) = keyBlock a key := by
  have hdigest : (hashOf a key).length ≤ blockSize a := (hashOf_length a key).trans_le (macLength_lt_blockSize a).le
  rw [keyBlock_of_le hdigest, keyBlock_of_lt h]

/-- The MAC depends on the key through its key block only (R164). -/
theorem hmac_congr {key' : List Byte} (h : keyBlock a key' = keyBlock a key) (msg : List Byte) :
    hmac a key' msg = hmac a key msg := by
  rw [hmac, hmac, h]

end Sys2Proof.Machine
end

/-! ### The statements of 43_hmac.md -/

section
namespace Sys2Proof.Machine

/-- Settles O28: a key block is one block, and the message or the digest takes, with the length field, less than one
more; the second half is each hash's definition. -/
theorem hmacHashesTwoBlocks : Obligations.HmacHashesTwoBlocks := by
  refine ⟨fun a key msg inner c hmsg hinner => ?_, fun _ => ⟨rfl, rfl, rfl⟩⟩
  have hfit := macLength_add_lenBytes_lt a
  have hdigest := macLength_ge a
  exact ⟨shaBlocks_keyBlock_append c (by omega), shaBlocks_keyBlock_append c (by omega)⟩

/-- Settles O29: in both cases the two keys have one key block. -/
theorem equivalentKeysGiveOneMac : Obligations.EquivalentKeysGiveOneMac :=
  ⟨fun _ _ msg _ h => hmac_congr (keyBlock_append_zeros h) msg, fun _ _ msg h => hmac_congr (keyBlock_hashOf h) msg⟩

/-- Settles O27: the rows of the table by evaluation, no selection above 2 by `selectHash_isSome`, and the length of
every digest by `hashOf_length`. -/
theorem hashSelector : Obligations.HashSelector := by
  refine ⟨rfl, rfl, rfl, fun alg h => ?_, rfl, rfl, rfl, rfl, rfl, rfl, fun _ => ⟨rfl, rfl, rfl⟩, hashOf_length⟩
  rw [← Option.not_isSome_iff_eq_none, selectHash_isSome]
  omega

end Sys2Proof.Machine
end

/-! ## The statement of 44_sha.md -/

section
namespace Sys2Proof.Machine

variable {B : Nat} (m : List Byte) (lb : Nat)

/-- The zeros of the padding fit in a block, so any count of zeros below theirs differs from it by less than B. -/
theorem padZeros_lt (hB : 0 < B) (n : Nat) : padZeros n B lb < B := Nat.mod_lt _ hB

/-- The parts of a padded message, counted: the message, the byte 0x80, the zeros and the length field. -/
theorem shaPad_length_eq_sum : (shaPad m B lb).length = m.length + 1 + padZeros m.length B lb + lb := by
  simp only [shaPad, List.length_append, List.length_singleton, zeros_length, beBytes_length]

/-- The zeros of the padding complete a block. -/
theorem dvd_add_padZeros (hB : 0 < B) : B ∣ m.length + 1 + padZeros m.length B lb + lb := by
  rw [← shaPad_length_eq_sum, shaPad_length hB]
  exact Nat.dvd_mul_right ..

/-- Two counts of zeros that both complete a block are a multiple of B apart, so none below the padding's does. -/
theorem not_dvd_of_lt_padZeros {y : Nat} (hB : 0 < B) (hy : y < padZeros m.length B lb) :
    ¬ B ∣ m.length + 1 + y + lb := by
  intro hdvd
  have hdiff := Nat.dvd_sub (dvd_add_padZeros m lb hB) hdvd
  have hle := Nat.le_of_dvd (by omega) hdiff
  have hlt := padZeros_lt lb hB m.length
  omega

theorem shaPad_eq_append_cons :
    shaPad m B lb = m ++ 0x80 :: (List.replicate (padZeros m.length B lb) 0x00 ++ beBytes lb (8 * m.length)) := by
  rw [shaPad, zeros, List.append_assoc, List.append_assoc]
  rfl

end Sys2Proof.Machine
end

section
namespace Sys2Proof.Machine

/-- Settles O26: the least z is `padZeros`; it makes whole blocks, and no lesser count does. -/
theorem paddingIsLeast : Obligations.PaddingIsLeast := fun m B lb hB =>
  ⟨padZeros m.length B lb, Nat.mod_eq_zero_of_dvd (dvd_add_padZeros m lb hB),
    fun _ hy hmod => not_dvd_of_lt_padZeros m lb hB hy (Nat.dvd_of_mod_eq_zero hmod), shaPad_eq_append_cons m lb⟩

end Sys2Proof.Machine
end

/-! ## Dynamic truncation (45_truncation.md): the window as one number, and which bytes the unit reads -/

section
namespace Sys2Proof.Machine

/-! ### The window as one number (R201 to R203) -/

/-- Four bytes in a row, read one by one. -/
theorem drop_take_four {s : List Byte} {k : Nat} (h : k + 3 < s.length) :
    (s.drop k).take 4 = [s.getD k 0, s.getD (k + 1) 0, s.getD (k + 2) 0, s.getD (k + 3) 0] := by
  iterate 4 rw [List.drop_eq_getElem_cons (by omega), List.take_succ_cons, ← List.getD_eq_getElem _ 0]
  rfl

/-- Two words side by side, cut or extended to w bits: the first moved up past the second. -/
theorem setWidth_append_eq_or {m n : Nat} (w : Nat) (x : BitVec m) (y : BitVec n) :
    (x ++ y).setWidth w = x.setWidth w <<< n ||| y.setWidth w := by
  ext i hi
  simp only [BitVec.getElem_setWidth, BitVec.getLsbD_append, BitVec.getElem_or, BitVec.getElem_shiftLeft]
  by_cases h : i < n
  · simp [h]
  · simp [h, BitVec.getLsbD_of_ge y i (Nat.le_of_not_lt h)]

/-- R202: at the top of 31 bits only bits 6 to 0 of the first byte have a place, and the mask keeps just these. -/
theorem mask_shiftLeft (b : Byte) : (b &&& 0x7F).setWidth 31 <<< 24 = b.setWidth 31 <<< 24 := by
  have hmask : ∀ j < 7, (0x7F : Byte).getLsbD j = true := by decide
  ext i hi
  simp only [BitVec.getElem_shiftLeft, BitVec.getElem_setWidth, BitVec.getLsbD_and]
  rw [hmask (i - 24) (by omega), Bool.and_true]

/-- R203: mask and combine give the four bytes side by side, without the top bit. -/
theorem mask_combine_eq_setWidth (a b c d : Byte) :
    ((a &&& 0x7F).setWidth 31 <<< 24) ||| (b.setWidth 31 <<< 16) ||| (c.setWidth 31 <<< 8) ||| d.setWidth 31 =
      (a ++ b ++ c ++ d).setWidth 31 := by
  simp only [setWidth_append_eq_or, mask_shiftLeft, BitVec.shiftLeft_or_distrib, ← BitVec.shiftLeft_add]

/-- The truncated value is the number of the window, kept to 31 bits. -/
theorem truncValue_eq_ofNat {mac : List Byte} {off : Nat} (h : off + 3 < mac.length) :
    truncValue mac off = BitVec.ofNat 31 (bytesVal ((mac.drop off).take 4)) := by
  rw [drop_take_four h, truncValue, mask_combine_eq_setWidth, ← ofNat_bytesVal_four]
  exact BitVec.setWidth_ofNat_of_le (by decide) _

/-! ### What the unit reads (R200, R201, R205) -/

/-- R205: the offset is a nibble, so the window ends at byte 18 at the latest. -/
theorem truncOffset_add_three_le (mac : List Byte) : (truncOffset mac).toNat + 3 ≤ 18 := by
  have := (truncOffset mac).isLt
  omega

/-- The truncated value depends on the bytes up to the end of the window only. -/
theorem truncValue_congr {m n : List Byte} {off : Nat} (h : ∀ i, i ≤ off + 3 → m[i]? = n[i]?) :
    truncValue m off = truncValue n off := by
  simp only [truncValue, List.getD_eq_getElem?_getD]
  rw [h off (by omega), h (off + 1) (by omega), h (off + 2) (by omega), h (off + 3) (by omega)]

/-- R201: MACs with one offset that agree on bytes 0 to 18 truncate alike. -/
theorem trunc_congr {m n : List Byte} (hoff : truncOffset m = truncOffset n) (h : ∀ i, i ≤ 18 → m[i]? = n[i]?) :
    trunc m = trunc n := by
  rw [trunc, trunc, hoff, truncValue_congr fun i hi => h i (hi.trans (truncOffset_add_three_le n))]

/-! ### The statements of 45_truncation.md -/

/-- Settles O30: the value is the window's number kept to 31 bits, which is that number and-ed with 2^31 - 1. -/
theorem truncationValue : Obligations.TruncationValue := by
  intro mac off h
  rw [truncValue_eq_ofNat h, BitVec.toNat_ofNat]
  exact (Nat.and_two_pow_sub_one_eq_mod _ 31).symm

/-- Settles O31: the low nibble is the offset, and no offset takes the window past byte 18. -/
theorem truncationReadsOnlyWindowAndNibble : Obligations.TruncationReadsOnlyWindowAndNibble :=
  fun m _ _ _ hbytes hnibble => ⟨trunc_congr hnibble hbytes, truncOffset_add_three_le m⟩

end Sys2Proof.Machine
end

/-! ## The reduction and the formatter (46_reduction_format.md): the code string as a numeral -/

section
namespace Sys2Proof.Machine

/-! ### The two units on 1 to 8 digits (R211, R214) -/

/-- R211 and R212: the remainder is below 10^8, so the 27-bit code holds it. -/
theorem exists_reduceCode (p : BitVec 31) {d : Nat} (h : d ≤ 8) :
    ∃ c, reduceCode p d = some c ∧ c.toNat = p.toNat % 10 ^ d := by
  refine ⟨_, reduceCode_of_le h, ?_⟩
  have hlt : p.toNat % 10 ^ d < 10 ^ d := Nat.mod_lt _ (by positivity)
  have hle : 10 ^ d ≤ 10 ^ 8 := Nat.pow_le_pow_right (by decide) h
  exact (BitVec.toNat_ofNat ..).trans (Nat.mod_eq_of_lt (by omega))

/-- The characters R214 gives for a number of any size, whatever the count of digits. -/
def digitString (code d : Nat) : List Byte := (List.range d).map (digitChar code d)

theorem formatCode_eq_digitString (c : BitVec 27) {d : Nat} (h : d ≤ 8) :
    formatCode c d = some (digitString c.toNat d) := formatCode_of_le h

@[simp] theorem digitString_length (code d : Nat) : (digitString code d).length = d := by simp [digitString]

/-! ### One character (R214) -/

/-- A decimal digit added to '0' does not carry out of the byte. -/
theorem digitChar_toNat (code d i : Nat) :
    (digitChar code d i).toNat = 0x30 + code / 10 ^ (d - 1 - i) % 10 := by
  have := Nat.mod_lt (code / 10 ^ (d - 1 - i)) (y := 10) (by decide)
  exact (BitVec.toNat_ofNat ..).trans (Nat.mod_eq_of_lt (by omega))

theorem digitChar_zero (d i : Nat) : digitChar 0 d i = 0x30 := by simp [digitChar]

/-- R215 (b): every character is '0' to '9'. -/
theorem isDigit_of_mem_digitString {code d : Nat} {b : Byte} (hb : b ∈ digitString code d) :
    0x30 ≤ b.toNat ∧ b.toNat ≤ 0x39 := by
  obtain ⟨i, -, rfl⟩ := List.mem_map.1 hb
  rw [digitChar_toNat]
  omega

/-- R215 (d): the string of 0. -/
theorem digitString_zero (d : Nat) : digitString 0 d = List.replicate d 0x30 :=
  List.eq_replicate_iff.2 ⟨digitString_length 0 d, fun b hb => by
    obtain ⟨i, -, rfl⟩ := List.mem_map.1 hb
    exact digitChar_zero d i⟩

/-! ### The string read as a number (R215) -/

theorem decimalValue_append_singleton (str : List Byte) (b : Byte) :
    decimalValue (str ++ [b]) = 10 * decimalValue str + (b.toNat - 0x30) := by
  simp [decimalValue]

/-- The characters before the last spell the number without its last digit. -/
theorem digitChar_succ (code : Nat) {d i : Nat} (h : i < d) : digitChar code (d + 1) i = digitChar (code / 10) d i := by
  have hplace : d + 1 - 1 - i = d - 1 - i + 1 := by omega
  rw [digitChar, digitChar, hplace, Nat.pow_succ', Nat.div_div_eq_div_mul]

theorem digitString_succ (code d : Nat) :
    digitString code (d + 1) = digitString (code / 10) d ++ [digitChar code (d + 1) d] := by
  rw [digitString, digitString, List.range_succ, List.map_append, List.map_singleton,
    List.map_congr_left fun i hi => digitChar_succ code (List.mem_range.1 hi)]

/-- R215 (c): d characters spell the number modulo 10^d. -/
theorem decimalValue_digitString (code d : Nat) : decimalValue (digitString code d) = code % 10 ^ d := by
  induction d generalizing code with
  | zero => exact (Nat.mod_one code).symm
  | succ d ih =>
    have hlast : (digitChar code (d + 1) d).toNat - 0x30 = code % 10 := by simp [digitChar_toNat]
    rw [digitString_succ, decimalValue_append_singleton, ih, hlast, Nat.pow_succ', Nat.mod_mul, Nat.add_comm]

/-! ### Suffixes (R216) -/

/-- The digit at place j < k is fixed by the number modulo 10^k. -/
theorem mod_pow_div_pow_mod_ten (n : Nat) {j k : Nat} (h : j < k) : n % 10 ^ k / 10 ^ j % 10 = n / 10 ^ j % 10 := by
  rw [← Nat.mod_mul_right_div_self, ← Nat.mod_mul_right_div_self, ← Nat.pow_succ,
    Nat.mod_mod_of_dvd _ (Nat.pow_dvd_pow 10 h)]

/-- The last k of m characters are the k characters of the number modulo 10^k. -/
theorem digitString_drop (code : Nat) {k m : Nat} (h : k ≤ m) :
    (digitString code m).drop (m - k) = digitString (code % 10 ^ k) k := by
  refine List.ext_getElem (by simp; omega) fun i _ hi => ?_
  have hk : i < k := by simpa using hi
  have hplace : m - 1 - (m - k + i) = k - 1 - i := by omega
  simp only [digitString, List.getElem_drop, List.getElem_map, List.getElem_range, digitChar, hplace]
  rw [mod_pow_div_pow_mod_ten code (by omega)]

/-! ### The statements of 46_reduction_format.md -/

/-- Settles O32: the code holds the remainder, which is below its divisor. -/
theorem reduceIsRemainder : Obligations.ReduceIsRemainder := by
  intro p d _ hd
  obtain ⟨c, hc, hval⟩ := exists_reduceCode p hd
  exact ⟨c, hc, hval, hval ▸ Nat.mod_lt _ (by positivity)⟩

/-- Settles O33: the string of `digitString`, whose value is the code modulo 10^digits, so the code itself. -/
theorem codeStringIsDecimal : Obligations.CodeStringIsDecimal := by
  intro c d _ hd hc
  refine ⟨_, formatCode_eq_digitString c hd, digitString_length .., fun _ => isDigit_of_mem_digitString,
    (decimalValue_digitString ..).trans (Nat.mod_eq_of_lt hc), ?_⟩
  rintro rfl
  exact digitString_zero d

/-- Settles O34: 10^k divides 10^m, so the shorter code is the longer one modulo 10^k, whose string is the suffix. -/
theorem shorterCodesAreSuffixes : Obligations.ShorterCodesAreSuffixes := by
  intro p k m _ hkm hm
  obtain ⟨ck, hck, hkval⟩ := exists_reduceCode p (hkm.trans hm)
  obtain ⟨cm, hcm, hmval⟩ := exists_reduceCode p hm
  have hmod : ck.toNat = cm.toNat % 10 ^ k := by
    rw [hkval, hmval, Nat.mod_mod_of_dvd _ (Nat.pow_dvd_pow 10 hkm)]
  refine ⟨ck, cm, _, _, hck, hcm, hmod, formatCode_eq_digitString ck (hkm.trans hm),
    formatCode_eq_digitString cm hm, ?_⟩
  rw [hmod, digitString_drop _ hkm]

end Sys2Proof.Machine
end

/-! ## The time step (47_timestep.md), and a GENT as a GENH on it -/

section
namespace Sys2Proof.Machine

variable {s t : State} {now t0 step q mf : DWord}

/-! ### Where the time step is defined, and what it is (R221 to R223) -/

theorem timeStep_eq_none_iff : timeStep now t0 step = none ↔ step = 0 ∨ now < t0 := by
  simp only [timeStep, ite_eq_left_iff, reduceCtorEq, imp_false, not_not]

theorem timeStep_eq_some_iff : timeStep now t0 step = some q ↔ step ≠ 0 ∧ t0 ≤ now ∧ (now - t0) / step = q := by
  simp only [timeStep, Option.ite_none_left_eq_some, not_or, BitVec.not_lt, Option.some.injEq, and_assoc, ne_eq]

/-- With `t0 ≤ now` the difference does not wrap, so the quotient is that of the numbers (R221). -/
theorem toNat_sub_udiv (h : t0 ≤ now) : ((now - t0) / step).toNat = (now.toNat - t0.toNat) / step.toNat := by
  rw [BitVec.toNat_udiv, BitVec.toNat_sub_of_le h]

/-- Settles O35: the comparisons are those of the numbers, and where they hold the difference does not wrap. -/
theorem timeStepIsFloor : Obligations.TimeStepIsFloor := by
  intro now t0 step
  refine ⟨?_, fun q hq => ?_⟩
  · rw [timeStep_eq_none_iff, BitVec.lt_def, ← BitVec.toNat_inj]
    rfl
  · obtain ⟨-, hle, rfl⟩ := timeStep_eq_some_iff.1 hq
    exact toNat_sub_udiv hle

/-! ### A state with its counter replaced (R25) -/

/-- The state with both halves of CTR set, as the Host sets them before a GENH. -/
def State.withCtr (mf : DWord) (s : State) : State :=
  { s with ctrLo := mf.extractLsb' 0 32, ctrHi := mf.extractLsb' 32 32 }

@[simp] theorem State.withCtr_ctr (mf : DWord) (s : State) : (s.withCtr mf).ctr = mf :=
  (BitVec.extractLsb'_append_extractLsb'_eq_extractLsb' rfl).trans BitVec.extractLsb'_eq_self

/-- GENT's two checks on the time operands pass where the time step is defined, and GENH has no others (R250). -/
theorem checkErrors_genh_withCtr (h : timeStep s.now s.t0 s.stepSeconds = some mf) :
    checkErrors .genh (s.withCtr mf) = checkErrors .gent s := by
  obtain ⟨hstep, hle, -⟩ := timeStep_eq_some_iff.1 h
  simp only [checkErrors, hstep, BitVec.not_lt.2 hle, reduceCtorEq, and_false, if_false]
  rfl

/-- The two commands select one moving factor (R136, R225), so they have one result. -/
theorem bigStepResults_genh_withCtr (h : timeStep s.now s.t0 s.stepSeconds = some mf) :
    bigStepResults .genh (s.withCtr mf) = bigStepResults .gent s := by
  have hmf : (s.withCtr mf).movingFactor .genh = s.movingFactor .gent := by
    rw [State.movingFactor, State.movingFactor, State.withCtr_ctr, h]
  rw [bigStepResults, bigStepResults, hmf]
  rfl

/-- The outcome shown is a function of the checks' answer and the results, whichever command they are of. -/
theorem bigStep_outcome_congr {op op' : GenOp} (hc : checkErrors op' t = checkErrors op s)
    (hr : bigStepResults op' t = bigStepResults op s) :
    (bigStep op' t).results = (bigStep op s).results ∧ (bigStep op' t).done = (bigStep op s).done ∧
      (bigStep op' t).err = (bigStep op s).err ∧ (bigStep op' t).errcode = (bigStep op s).errcode := by
  simp only [bigStep, hc, hr]
  split <;> exact ⟨rfl, rfl, rfl, rfl⟩

/-- Settles O23: both runs end in the big step, whose checks and results agree for the two commands. -/
theorem gentAgreesWithGenh : Obligations.GentAgreesWithGenh := by
  intro s mf h
  exact ⟨_, _, coreRun_accept .gent s, coreRun_accept .genh (s.withCtr mf),
    bigStep_outcome_congr (checkErrors_genh_withCtr h) (bigStepResults_genh_withCtr h)⟩

end Sys2Proof.Machine
end

/-! ## Control commands, errors, and reset and hazards (48_control_commands.md, 60_exceptions.md,
70_reset_and_hazards.md) -/

section
namespace Sys2Proof.Machine

variable {s : State} {w : Word}

/-! ### The checks (R250) -/

/-- Settles O16: a chain of branches answers an error exactly when its condition holds and none before it, and the
conditions compare the registers as numbers. -/
theorem errorPriority : Obligations.ErrorPriority := by
  intro op s
  have hstep : s.stepSeconds = 0 ↔ s.stepSeconds.toNat = 0 := BitVec.toNat_inj.symm
  have hlen : s.keylen = 0 ↔ s.keylen.toNat = 0 := BitVec.toNat_inj.symm
  -- Each answer, taken apart along the chain of branches.
  simp only [checkErrors, hstep, hlen, BitVec.lt_def, ite_eq_iff]
  -- Only the branch that gives this answer is left, below the negations of those before it.
  simp only [reduceCtorEq, and_true, and_false, or_false, false_or, Bool.not_eq_true, ne_eq, and_self]

/-! ### A word written to CMD (R100, R252, R290) -/

/-- An illegal word written to CMD runs no instruction (R252). -/
theorem regWrite_cmd_of_decode_error {e : IllegalWord} (h : decode w = .error e) :
    regWrite (regIndex .cmd) w s = execIllegal s := by
  have hcmd : regWrite (regIndex .cmd) w s = execCommand w s := rfl
  rw [hcmd, execCommand, h]

/-- While busy, a word written to CMD is dropped, legal or not, unless it is SRST (R100, R105). -/
theorem regWrite_cmd_busy (hb : s.busy = true) (hw : w ≠ encode .srst) :
    regWrite (regIndex .cmd) w s = .next s.dropWrite := by
  cases hd : decode w with
  | error e => exact (regWrite_cmd_of_decode_error hd).trans (whenIdle_busy _ hb)
  | ok i =>
    have hi : i ≠ .srst := by
      rintro rfl
      exact hw (eq_encode_of_decode hd)
    exact (regWrite_cmd_of_decode hd).trans (busyCommandsAreDropped s i hb hi)

/-- Settles O8: the word decodes to no instruction, and the commit is taken while idle. -/
theorem illegalWordWhileIdle : Obligations.IllegalWordWhileIdle := by
  refine fun s w e hb hd => ⟨s.illegalCommand, ?_, rfl, ?_⟩
  · exact (regWrite_cmd_of_decode_error hd).trans (whenIdle_idle _ hb)
  · rw [regRead_regIndex, State.readReg, State.illegalCommand_errcode]
    rfl

/-- Settles O7: what is dropped is what is taken only while idle; each other write by the lemma for its register. -/
theorem busyWritesAreDropped : Obligations.BusyWritesAreDropped := by
  refine fun s hb => ⟨fun i r v hr ho => ?_, fun w hw => regWrite_cmd_busy hb hw,
    regWrite_cmd_of_decode (decode_encode .srst), regWrite_ien,
    fun i r v hr ho hc hi => regWrite_readOnly hr ho hc hi v, fun i v hr => regWrite_reserved hr v, fun _ => rfl⟩
  exact (regWrite_operand hr ho v).trans (whenIdle_busy _ hb)

/-! ### ACK, SRST and Reset (R231, R232, R281) -/

/-- Settles O36: taken while idle and dropped while busy; without DONE and ERR `irq` is low. -/
theorem ackClearsOutcome : Obligations.AckClearsOutcome := by
  refine fun s => ⟨fun hb => ⟨s.acknowledge, whenIdle_idle _ hb, rfl, ?_⟩, whenIdle_busy _⟩
  rw [State.irq, State.acknowledge_done, State.acknowledge_err, Bool.false_and, Bool.false_and, Bool.or_false]

/-- Settles O37: SRST does not look at BUSY, and the memory it leaves is empty, so that every address reads 0x00. -/
theorem srstResetsAllButIen : Obligations.SrstResetsAllButIen := by
  refine fun s => ⟨s.softReset, rfl, rfl, rfl, fun a _ => ?_⟩
  rw [State.softReset_key, Memory.read_nil]

/-- Settles O39: SRST is Reset with IEN put back. -/
theorem resetAndSrstDifferInIen : Obligations.ResetAndSrstDifferInIen := fun s =>
  ⟨s.hardReset, s.softReset, rfl, rfl, rfl, State.softReset_ien s⟩

end Sys2Proof.Machine
end
